-- ==== Sys2Proof/Syntax.lean ====
section
/-! DEFINITION. The commands of the core: one constructor per row of spec/opcode_table.json, in the table's order
(spec/30_encoding.md R85). A command carries no register number; only KEYEXP and ADDROUNDKEY carry a field (R80, R84). -/

namespace Sys2Proof

/-- One command. `klen` is the zero-extended KLEN field (R83), `rnd` the zero-extended RND field (R82). -/
inductive Instr where
  | nop
  | keyexp (klen : Nat)
  | encblk
  | decblk
  | subbytes
  | invsubbytes
  | shiftrows
  | invshiftrows
  | mixcolumns
  | invmixcolumns
  | addroundkey (rnd : Nat)
  | primetest
  | gcd
  | modinv
  | keygen
  | keyload
  | modmul
  | modexp
  | encint
  | decint
  | decbyte
deriving DecidableEq, Repr

end Sys2Proof
end

