-- ==== Sys2Proof/WellFormed.lean ====
section
/-! DEFINITION. Which commands a 32-bit word can carry: the fields fit their widths (spec/30_encoding.md R80, R82, R83). -/

namespace Sys2Proof

/-- KLEN is 8 bits wide and RND 4 bits wide; no other command has a field. -/
def Instr.wellFormed : Instr → Bool
  | .keyexp klen => decide (klen < 256)
  | .addroundkey rnd => decide (rnd < 16)
  | .nop | .encblk | .decblk | .subbytes | .invsubbytes | .shiftrows | .invshiftrows | .mixcolumns | .invmixcolumns
  | .primetest | .gcd | .modinv | .keygen | .keyload | .modmul | .modexp | .encint | .decint | .decbyte => true

end Sys2Proof
end

