-- ==== Sys2Proof/Word.lean ====
section
/-! DEFINITION. The data the registers hold: bytes, 32-bit words, and the byte arrays of the block cipher unit
(spec/00_scope.md R7, R9; spec/10_state.md R24 to R26). -/

namespace Sys2Proof

/-- Eight bits, an element of GF(2^8) (R7, R100). -/
abbrev Byte := BitVec 8

/-- One bus word or integer register (R7, R54). -/
abbrev Word32 := BitVec 32

/-- A 16-byte value such as KEY or BLK, byte 0 first (R24, R25). -/
abbrev Block := Vector Byte 16

/-- A 4-byte schedule word `t.b[0..3]` (R26). -/
abbrev Quad := Vector Byte 4

/-- The round-key schedule W[0..43] (R26). -/
abbrev Schedule := Vector Quad 44

end Sys2Proof
end

