-- ==== Sys2Proof/Decode.lean ====
section
/-! DEFINITION. The 32-bit command word: its fields, the decoder of spec/30_encoding.md R89 and the encoder of R80. -/

namespace Sys2Proof

/-- Why a word is no command, in the order R89 checks. Each of them raises ILLEGAL_CMD (R86, R87). -/
inductive DecodeError where
  /-- OPC names no command (R87). -/
  | undefinedOpcode
  /-- RSV1 or RSV0 is nonzero (R86). -/
  | reservedField
  /-- KLEN is nonzero and OPC is not KEYEXP's (R86). -/
  | unusedKlen
  /-- RND is nonzero and OPC is not ADDROUNDKEY's (R86). -/
  | unusedRnd
deriving DecidableEq, Repr

/-- OPC, bits 7:0 (R80, R81). -/
def opcField (v : Word32) : BitVec 8 := v.extractLsb' 0 8

/-- RND, bits 11:8 (R80, R82). -/
def rndField (v : Word32) : BitVec 4 := v.extractLsb' 8 4

/-- RSV0, bits 15:12 (R80). -/
def rsv0Field (v : Word32) : BitVec 4 := v.extractLsb' 12 4

/-- KLEN, bits 23:16 (R80, R83). -/
def klenField (v : Word32) : BitVec 8 := v.extractLsb' 16 8

/-- RSV1, bits 31:24 (R80). -/
def rsv1Field (v : Word32) : BitVec 8 := v.extractLsb' 24 8

/-- The opcode map of R85; `none` where the table's OPC is blank. -/
def commandOf (opc : BitVec 8) (rnd klen : Nat) : Option Instr :=
  match opc with
  | 0x00#8 => some .nop
  | 0x01#8 => some (.keyexp klen)
  | 0x02#8 => some .encblk
  | 0x03#8 => some .decblk
  | 0x04#8 => some .subbytes
  | 0x05#8 => some .invsubbytes
  | 0x06#8 => some .shiftrows
  | 0x07#8 => some .invshiftrows
  | 0x08#8 => some .mixcolumns
  | 0x09#8 => some .invmixcolumns
  | 0x0A#8 => some (.addroundkey rnd)
  | 0x20#8 => some .primetest
  | 0x21#8 => some .gcd
  | 0x22#8 => some .modinv
  | 0x23#8 => some .keygen
  | 0x24#8 => some .keyload
  | 0x30#8 => some .modmul
  | 0x31#8 => some .modexp
  | 0x32#8 => some .encint
  | 0x33#8 => some .decint
  | 0x34#8 => some .decbyte
  | _ => none

/-- The decode part of Execute(v), its checks in R89's order. -/
def decode (v : Word32) : Except DecodeError Instr :=
  match commandOf (opcField v) (rndField v).toNat (klenField v).toNat with
  | none => .error .undefinedOpcode
  | some i =>
    if rsv1Field v ≠ 0 ∨ rsv0Field v ≠ 0 then .error .reservedField
    else if opcField v ≠ 0x01#8 ∧ klenField v ≠ 0 then .error .unusedKlen
    else if opcField v ≠ 0x0A#8 ∧ rndField v ≠ 0 then .error .unusedRnd
    else .ok i

/-- What the decoder reads from a word numbered as spec/opcode_table.json numbers it (bit 0 least significant). Every
command is one 32-bit word delivered by one CMD write (R88), so bits from `nbits` up are 0 and there is no second word. -/
def decodeTableWord (nbits w : Nat) : Option Instr :=
  match decode (BitVec.ofNat 32 (w % 2 ^ nbits)) with
  | .ok i => some i
  | .error _ => none

/-- The OPC value of a command (R85). -/
def Instr.opc : Instr → BitVec 8
  | .nop => 0x00#8
  | .keyexp _ => 0x01#8
  | .encblk => 0x02#8
  | .decblk => 0x03#8
  | .subbytes => 0x04#8
  | .invsubbytes => 0x05#8
  | .shiftrows => 0x06#8
  | .invshiftrows => 0x07#8
  | .mixcolumns => 0x08#8
  | .invmixcolumns => 0x09#8
  | .addroundkey _ => 0x0A#8
  | .primetest => 0x20#8
  | .gcd => 0x21#8
  | .modinv => 0x22#8
  | .keygen => 0x23#8
  | .keyload => 0x24#8
  | .modmul => 0x30#8
  | .modexp => 0x31#8
  | .encint => 0x32#8
  | .decint => 0x33#8
  | .decbyte => 0x34#8

/-- The RND value of a command: 0 unless it is ADDROUNDKEY (R80). -/
def Instr.rnd : Instr → Nat
  | .addroundkey rnd => rnd
  | _ => 0

/-- The KLEN value of a command: 0 unless it is KEYEXP (R80). -/
def Instr.klen : Instr → Nat
  | .keyexp klen => klen
  | _ => 0

/-- enc(C) of spec/00_scope.md R10: RSV1, KLEN, RSV0, RND, OPC from the most significant bit down (R80). The spec gives no
word for a number too wide for its field (klen above 255, rnd above 15; R90 does not bound `num`): the encoder then keeps the
low 8 or 4 bits, so that `KEYEXP klen=272` is the word of `KEYEXP klen=16` (DESIGN CHOICE, log entry 14). -/
def encode (i : Instr) : Word32 :=
  0#8 ++ BitVec.ofNat 8 i.klen ++ 0#4 ++ BitVec.ofNat 4 i.rnd ++ i.opc

end Sys2Proof
end

