-- ==== Sys2Proof/Machine/Cipher.lean ====
section
/-! DEFINITION. The block cipher as pure functions: arithmetic in GF(2^8) (spec/40_aes_round_ops.md R100 to R102), the round
transforms on the column-major state matrix (R103, R106 to R111), the key schedule and the whole-block transforms
(spec/41_aes_key_and_block.md R140 to R148). -/

namespace Sys2Proof.Machine

/-- Multiplication by x, with the conditional XOR of 0x1B on overflow (R101). -/
def xtime (a : Byte) : Byte := (a <<< 1) ^^^ (if a.getLsbD 7 then 0x1B#8 else 0#8)

/-- `k` more rounds of R102's loop. -/
def gmulLoop : Nat → Byte → Byte → Byte → Byte
  | 0, acc, _, _ => acc
  | k + 1, acc, a, b => gmulLoop k (if b.getLsbD 0 then acc ^^^ a else acc) (xtime a) (b >>> 1)

/-- The field product by repeated doubling (R102). -/
def gmul (a b : Byte) : Byte := gmulLoop 8 0#8 a b

/-- Forward substitution of every byte (R106). -/
def subBytes (s : Block) : Block := s.map sbox

/-- Inverse substitution of every byte (R106). -/
def invSubBytes (s : Block) : Block := s.map invSbox

/-- Row r = i mod 4 of the state matrix rotates left by r: out[r + 4c] = s[r + 4((c + r) mod 4)] (R103, R107). -/
def shiftRows (s : Block) : Block :=
  Vector.ofFn fun i => s[i.val % 4 + 4 * ((i.val / 4 + i.val % 4) % 4)]'(by omega)

/-- Row r rotates right by r: out[r + 4c] = s[r + 4((c - r) mod 4)] (R108). -/
def invShiftRows (s : Block) : Block :=
  Vector.ofFn fun i => s[i.val % 4 + 4 * ((i.val / 4 + (4 - i.val % 4)) % 4)]'(by omega)

/-- One column through the circulant whose first row is `row`: out[r] is the sum over k of row[(k - r) mod 4] * s[4c + k],
where i = 4c + r (R109, R110). -/
def circulant (row : Quad) (s : Block) : Block :=
  Vector.ofFn fun i =>
    gmul (row[(4 - i.val % 4) % 4]'(by omega)) (s[4 * (i.val / 4)]'(by omega)) ^^^
    gmul (row[(5 - i.val % 4) % 4]'(by omega)) (s[4 * (i.val / 4) + 1]'(by omega)) ^^^
    gmul (row[(6 - i.val % 4) % 4]'(by omega)) (s[4 * (i.val / 4) + 2]'(by omega)) ^^^
    gmul (row[(7 - i.val % 4) % 4]'(by omega)) (s[4 * (i.val / 4) + 3]'(by omega))

/-- R109. -/
def mixColumns (s : Block) : Block := circulant mixRow s

/-- R110. -/
def invMixColumns (s : Block) : Block := circulant invMixRow s

/-- Schedule word i; R26 numbers them 0 to 43, and no rule asks for another. -/
def schedWord (w : Schedule) (i : Nat) : Quad := if h : i < 44 then w[i] else Vector.replicate 4 0#8

/-- Column m of the block is XORed with schedule word 4k + m, byte j into row j (R111). -/
def addRoundKey (w : Schedule) (s : Block) (k : Nat) : Block :=
  Vector.ofFn fun i => s[i] ^^^ (schedWord w (4 * k + i.val / 4))[i.val % 4]'(by omega)

/-- Bytewise XOR of two schedule words. -/
def xorQuad (x y : Quad) : Quad := Vector.ofFn fun j => x[j] ^^^ y[j]

/-- Byte 1 moves to position 0 (R141). -/
def rotWord (x : Quad) : Quad := #v[x[1], x[2], x[3], x[0]]

/-- Forward substitution of the four bytes (R141). -/
def subWord (x : Quad) : Quad := x.map sbox

/-- The round constant i in byte 0 of a word (R142); R143 uses the indices 0 to 9. -/
def roundConstWord (i : Nat) : Quad := #v[if h : i < 10 then rconTable[i] else 0#8, 0#8, 0#8, 0#8]

/-- W[i] from the words before it, for 4 ≤ i < 44 (R143). -/
def nextWord (w : Schedule) (i : Nat) : Quad :=
  xorQuad
    (if i % 4 = 0 then xorQuad (subWord (rotWord (schedWord w (i - 1)))) (roundConstWord (i / 4 - 1))
     else schedWord w (i - 1))
    (schedWord w (i - 4))

/-- The raw key in words 0 to 3 (R143); the later words are still to be computed. -/
def rawKeyWords (key : Block) : Schedule :=
  Vector.ofFn fun i => if h : i.val < 4 then Vector.ofFn fun j => key[4 * i.val + j.val] else Vector.replicate 4 0#8

/-- The loop of R143 for the indices from i on, `fuel` of them. -/
def expandFrom : Nat → Nat → Schedule → Schedule
  | 0, _, w => w
  | fuel + 1, i, w => expandFrom fuel (i + 1) (if h : i < 44 then w.set i (nextWord w i) else w)

/-- expandKey(K): words 0 to 3 are the raw key, words 4 to 43 follow in order (R143). -/
def expandKey (key : Block) : Schedule := expandFrom 40 4 (rawKeyWords key)

/-- One of the rounds 1 to 9 of the cipher (R146). -/
def cipherRound (w : Schedule) (s : Block) (k : Nat) : Block :=
  addRoundKey w (mixColumns (shiftRows (subBytes s))) k

/-- cipher(s) (R146). -/
def cipher (w : Schedule) (s : Block) : Block :=
  let s := [1, 2, 3, 4, 5, 6, 7, 8, 9].foldl (cipherRound w) (addRoundKey w s 0)
  addRoundKey w (shiftRows (subBytes s)) 10

/-- One of the rounds 9 to 1 of the inverse cipher (R148). -/
def invCipherRound (w : Schedule) (s : Block) (k : Nat) : Block :=
  invMixColumns (addRoundKey w (invSubBytes (invShiftRows s)) k)

/-- invCipher(s), with the final pair before the last key addition (R148; spec/90_conflicts.md C1). -/
def invCipher (w : Schedule) (s : Block) : Block :=
  let s := [9, 8, 7, 6, 5, 4, 3, 2, 1].foldl (invCipherRound w) (addRoundKey w s 10)
  addRoundKey w (invSubBytes (invShiftRows s)) 0

end Sys2Proof.Machine
end

