-- ==== Sys2Proof/Config.lean ====
section
/-! DEFINITION. The fixed parameters of the core (spec/00_scope.md R5) and the values the spec leaves open
(CORE_BASE, the unspecified reset contents, the entropy source, a residue modulo 0), each an uninterpreted constant. -/

namespace Sys2Proof

/-- Size in bytes of the register window (spec/20_memory.md R50). -/
def Config.windowBytes : Nat := 0x200

/-- The constant the ID register reads as (spec/10_state.md R22). -/
def Config.idValue : Word32 := 0x434C4B01#32

/-- PRIME_MIN of R5: the least legal PLO, PHI and KEYLOAD prime. -/
def Config.primeMin : Nat := 3

/-- PRIME_MAX of R5: the greatest legal PLO, PHI and KEYLOAD prime. -/
def Config.primeMax : Nat := 65535

/-- The value PLO resets to (R5, R41). -/
def Config.ploReset : Word32 := 100#32

/-- The value PHI resets to (R5, R41). -/
def Config.phiReset : Word32 := 199#32

/-- Which 0x200-byte page of the platform's bus holds the window: an open parameter (decision D39). Log entry 4. -/
opaque Config.corePage : Nat

/-- CORE_BASE, "a platform address aligned to 0x200" (R5, R50, decision D39). -/
def Config.coreBase : Nat := Config.windowBytes * Config.corePage

/-- The contents of every state element that R41 calls unspecified after reset. -/
structure Config.ResetContents where
  key : Block
  blk : Block
  w : Schedule
  ra : Word32
  rb : Word32
  rm : Word32
  rr : Word32
  p : Word32
  q : Word32
  n : Word32
  t : Word32
  e : Word32
  d : Word32
deriving DecidableEq, Repr, Inhabited

/-- What the unspecified elements hold after the k-th reset: a free value (spec/10_state.md R41, R42).
DESIGN CHOICE, log entry 2. -/
opaque Config.unspecified : Nat → Config.ResetContents

/-- The k-th draw of KEYGEN's entropy source, before it is reduced to an index into the candidate primes:
a free value (spec/10_state.md R39; spec/42_rsa_key_construction.md R181). DESIGN CHOICE, log entry 3. -/
opaque Config.entropy : Nat → Nat

/-- `a mod 0`, which spec/00_scope.md R8 does not define (it has b ≥ 1): a free value, not cut to any width. DESIGN CHOICE,
log entry 13. -/
opaque Config.modByZero : Nat → Nat

end Sys2Proof
end

