-- ==== Sys2Proof/Machine/State.lean ====
section
/-! DEFINITION. The state of the machine (spec/10_state.md), the host's accesses that drive it (spec/20_memory.md R50, R58;
spec/60_exceptions.md R281), the reasons a step can stop, and the state after reset (R41). -/

namespace Sys2Proof.Machine

/-- The named registers of the window (spec/20_memory.md R52). -/
inductive Reg where
  | id | status | cmd
  | key (k : Fin 4) | blk (k : Fin 4)
  | ra | rb | rm | rr | plo | phi
  | p | q | n | t | e | d
  | w (i : Fin 44)
deriving DecidableEq, Repr

/-- The errors a command can raise, with the codes of spec/60_exceptions.md R261 (see `CmdError.code`). -/
inductive CmdError where
  | illegalCmd | invalidKeyLength | noKey | badRound | badModulus | notInvertible
  | keyGenerationFailure | noPublicKey | outOfRangeDecryption
deriving DecidableEq, Repr

/-- Where a bus access goes: an offset in the register window (the spec's own primitive, spec/00_scope.md R9), or an address
of the platform's bus (spec/20_memory.md R50). Log entry 4. -/
inductive BusLocation where
  | offset (off : Nat)
  | address (a : Nat)
deriving DecidableEq, Repr

/-- What a bus access does. -/
inductive BusAction where
  | read
  | write (v : Word32)
deriving DecidableEq, Repr

/-- One bus access of the host; `width` counts bits (spec/20_memory.md R51). -/
structure Access where
  width : Nat
  loc : BusLocation
  action : BusAction
deriving DecidableEq, Repr

/-- What can happen to the core next: an access of the host, or a reset by the platform, which may cut off the access in
progress (spec/70_reset_and_hazards.md R290, R292). -/
inductive HostEvent where
  | access (a : Access)
  | reset (abandoned : Option Access)
deriving DecidableEq, Repr

/-- The machine. All fields down to `d` are the spec's (R23 to R35); the last four are the model's own. -/
structure State where
  /-- STATUS.KV: the schedule may be used (R27). -/
  kv : Bool
  /-- STATUS.PKV: the key material is valid (R36). -/
  pkv : Bool
  /-- STATUS.ERR: the code of the most recent command (R23, R261). -/
  err : BitVec 4
  /-- KEY[0..15] (R24). -/
  key : Block
  /-- BLK[0..15] (R25). -/
  blk : Block
  /-- W[0..43] (R26). -/
  w : Schedule
  /-- Operand A (R28). -/
  ra : Word32
  /-- Operand B (R28). -/
  rb : Word32
  /-- Modulus operand (R28). -/
  rm : Word32
  /-- Result (R29). -/
  rr : Word32
  /-- Low bound of KEYGEN's range (R30). -/
  plo : Word32
  /-- High bound of KEYGEN's range (R30). -/
  phi : Word32
  /-- Prime p (R31). -/
  p : Word32
  /-- Prime q (R31). -/
  q : Word32
  /-- Modulus n (R32). -/
  n : Word32
  /-- Totient r (R33). -/
  t : Word32
  /-- Public exponent (R34). -/
  e : Word32
  /-- Private exponent (R35). -/
  d : Word32
  /-- The model's own: what the host and the platform do next, first event first (R20, R61, R281). Log entry 1. -/
  pending : List HostEvent
  /-- The model's own: the values the reads returned, newest first (R58). Log entry 5. -/
  reads : List Word32
  /-- The model's own: how many draws of `Config.entropy` KEYGEN has taken (R39). Log entry 3. -/
  draws : Nat
  /-- The model's own: how many resets came since the first (R42). Log entry 2. -/
  resets : Nat
deriving DecidableEq, Repr

/-- Why the machine stops with a fault (spec/60_exceptions.md R284). A command's error is none of these: it is STATUS.ERR. -/
inductive Fault where
  /-- Raised by a bus access that is not 32 bits wide: "refused" (R51). Safe: the host is stuck. Log entry 6. -/
  | accessWidth
  /-- Raised by a 32-bit bus access at an offset that is no multiple of 4: "refused" (R51). Safe. Log entry 6. -/
  | accessMisaligned
  /-- Raised by the host driver's unpad when the pad byte exceeds the length (spec/45_host_procedures.md R234). Safe. -/
  | hostUnpadOverrun
deriving DecidableEq, Repr

/-- Why a step has no meaning. -/
inductive Refusal where
  /-- An instruction without a meaning, rejected by name in `exec`; no arm uses it. Safe. -/
  | notModelled (mnemonic : String)
  /-- Raised by a bus access outside the window: it "does not reach the core" (spec/20_memory.md R50). Safe. Log entry 6. -/
  | outsideWindow
deriving DecidableEq, Repr

/-- The state after the k-th reset (R41): the specified elements at their values, the unspecified ones at
`Config.unspecified k`. What is not the core's (the host's further accesses, the values it has read, the entropy source's
position) goes on. -/
def State.afterReset (k draws : Nat) (pending : List HostEvent) (reads : List Word32) : State where
  kv := false
  pkv := false
  err := 0
  key := (Config.unspecified k).key
  blk := (Config.unspecified k).blk
  w := (Config.unspecified k).w
  ra := (Config.unspecified k).ra
  rb := (Config.unspecified k).rb
  rm := (Config.unspecified k).rm
  rr := (Config.unspecified k).rr
  plo := Config.ploReset
  phi := Config.phiReset
  p := (Config.unspecified k).p
  q := (Config.unspecified k).q
  n := (Config.unspecified k).n
  t := (Config.unspecified k).t
  e := (Config.unspecified k).e
  d := (Config.unspecified k).d
  pending := pending
  reads := reads
  draws := draws
  resets := k

/-- The machine right after its first reset (power-up, R283, R290), with no access of the host placed. -/
def State.reset : State := State.afterReset 0 0 [] []

end Sys2Proof.Machine
end

