-- ==== Sys2Proof/Machine/Flags.lean ====
section
/-! DEFINITION. The STATUS register: its fields, the error codes, and how commands and key writes change them
(spec/10_state.md R23, R27, R36; spec/60_exceptions.md R261, R262). -/

namespace Sys2Proof.Machine

/-- The code of an error in STATUS.ERR (R261). Code 0x0 is success; 0xA to 0xF are never written. -/
def CmdError.code : CmdError → BitVec 4
  | .illegalCmd => 0x1#4
  | .invalidKeyLength => 0x2#4
  | .noKey => 0x3#4
  | .badRound => 0x4#4
  | .badModulus => 0x5#4
  | .notInvertible => 0x6#4
  | .keyGenerationFailure => 0x7#4
  | .noPublicKey => 0x8#4
  | .outOfRangeDecryption => 0x9#4

/-- STATUS as software reads it: ERR at 7:4, PKV at 1, KV at 0, every other bit 0 (R23, R58). -/
def State.status (s : State) : Word32 :=
  0#24 ++ s.err ++ 0#2 ++ BitVec.ofBool s.pkv ++ BitVec.ofBool s.kv

/-- STATUS.ERR <- code. -/
def State.setErr (s : State) (code : BitVec 4) : State := { s with err := code }

/-- STATUS.KV <- v (R27). -/
def State.setKv (s : State) (v : Bool) : State := { s with kv := v }

end Sys2Proof.Machine
end

