-- ==== Sys2Proof/Machine/Ops.lean ====
section
/-! DEFINITION. The named operations over registers: raising an error and completing a command (spec/60_exceptions.md R260,
R262), the byte lanes (spec/20_memory.md R53), the register map (R52) and the effects of bus reads and register writes (R58). -/

namespace Sys2Proof.Machine

/-- What a step or a command answers. -/
abbrev Outcome := Host.Outcome State Fault Refusal

/-- `raise CmdError(c)`: STATUS.ERR takes the code and nothing else changes (R260, R262). There is no trap, no saved value and
no return (R274, R275). -/
def State.raise (s : State) (c : CmdError) : State := s.setErr c.code

/-- The end of every command started in `s`: the writes of a successful one and ERR <- 0 (spec/30_encoding.md R89), or the
error alone, every write discarded (R262). The command always completes. -/
def State.complete (s : State) (r : Except CmdError State) : Outcome :=
  .next (match r with
    | .ok t => t.setErr 0#4
    | .error c => s.raise c)

/-! Byte lanes. -/

/-- Bits [8j+7 : 8j] of a bus word (R53). -/
def laneOf (v : Word32) (j : Nat) : Byte := v.extractLsb' (8 * j) 8

/-- The bus word whose lanes 0 to 3 are the four bytes (R53). -/
def wordOfLanes (b0 b1 b2 b3 : Byte) : Word32 := b3 ++ b2 ++ b1 ++ b0

/-- The k-th bus word of a 16-byte register group (R53). -/
def blockWord (x : Block) (k : Fin 4) : Word32 :=
  wordOfLanes x[4 * k.val] x[4 * k.val + 1] x[4 * k.val + 2] x[4 * k.val + 3]

/-- A 16-byte register group after a write of its k-th bus word (R53, R58). -/
def setBlockWord (x : Block) (k : Fin 4) (v : Word32) : Block :=
  Vector.ofFn fun i => if i.val / 4 = k.val then laneOf v (i.val % 4) else x[i]

/-- The bus word of a schedule word (R53). -/
def quadWord (x : Quad) : Word32 := wordOfLanes x[0] x[1] x[2] x[3]

/-! The register map. -/

/-- The offset of a register from CORE_BASE (R52). -/
def Reg.offset : Reg → Nat
  | .id => 0x000
  | .status => 0x004
  | .cmd => 0x008
  | .key k => 0x010 + 4 * k.val
  | .blk k => 0x020 + 4 * k.val
  | .ra => 0x040
  | .rb => 0x044
  | .rm => 0x048
  | .rr => 0x04C
  | .plo => 0x050
  | .phi => 0x054
  | .p => 0x060
  | .q => 0x064
  | .n => 0x068
  | .t => 0x06C
  | .e => 0x070
  | .d => 0x074
  | .w i => 0x100 + 4 * i.val

/-- The register at an aligned offset of the window; `none` at a reserved offset (R52, R55). -/
def regAt (off : Nat) : Option Reg :=
  match off with
  | 0x000 => some .id
  | 0x004 => some .status
  | 0x008 => some .cmd
  | 0x010 => some (.key 0)
  | 0x014 => some (.key 1)
  | 0x018 => some (.key 2)
  | 0x01C => some (.key 3)
  | 0x020 => some (.blk 0)
  | 0x024 => some (.blk 1)
  | 0x028 => some (.blk 2)
  | 0x02C => some (.blk 3)
  | 0x040 => some .ra
  | 0x044 => some .rb
  | 0x048 => some .rm
  | 0x04C => some .rr
  | 0x050 => some .plo
  | 0x054 => some .phi
  | 0x060 => some .p
  | 0x064 => some .q
  | 0x068 => some .n
  | 0x06C => some .t
  | 0x070 => some .e
  | 0x074 => some .d
  | off =>
    if h : 0x100 ≤ off ∧ off % 4 = 0 ∧ (off - 0x100) / 4 < 44 then some (.w ⟨(off - 0x100) / 4, h.2.2⟩) else none

/-- What a bus read of a register returns (R56, R58). CMD is write-only and returns 0. -/
def State.readReg (s : State) : Reg → Word32
  | .id => Config.idValue
  | .status => s.status
  | .cmd => 0
  | .key k => blockWord s.key k
  | .blk k => blockWord s.blk k
  | .ra => s.ra
  | .rb => s.rb
  | .rm => s.rm
  | .rr => s.rr
  | .plo => s.plo
  | .phi => s.phi
  | .p => s.p
  | .q => s.q
  | .n => s.n
  | .t => s.t
  | .e => s.e
  | .d => s.d
  | .w i => quadWord s.w[i]

/-- The legal value a write to PLO or PHI stores: min(max(v, 3), 65535) (spec/10_state.md R30). -/
def clampRange (v : Word32) : Word32 :=
  BitVec.ofNat 32 (min (max v.toNat Config.primeMin) Config.primeMax)

/-- What a bus write does to a register other than CMD (R56 to R58; spec/10_state.md R27, R30). A write to a read-only
register is ignored. CMD stores nothing: its write runs a command (`busWrite`). -/
def State.writeReg (s : State) (r : Reg) (v : Word32) : State :=
  match r with
  | .key k => { s with key := setBlockWord s.key k v, kv := false }
  | .blk k => { s with blk := setBlockWord s.blk k v }
  | .ra => { s with ra := v }
  | .rb => { s with rb := v }
  | .rm => { s with rm := v }
  | .plo => { s with plo := clampRange v }
  | .phi => { s with phi := clampRange v }
  | .id | .status | .cmd | .rr | .p | .q | .n | .t | .e | .d | .w _ => s

/-- BusRead(off), for an aligned offset of the window (R58). -/
def busRead (s : State) (off : Nat) : Word32 :=
  match regAt off with
  | some r => s.readReg r
  | none => 0

/-! Accesses. -/

/-- The window offset an access reaches, `none` where it does not reach the core (R50). -/
def BusLocation.windowOffset : BusLocation → Option Nat
  | .offset off => if off < Config.windowBytes then some off else none
  | .address a =>
    if Config.coreBase ≤ a ∧ a < Config.coreBase + Config.windowBytes then some (a - Config.coreBase) else none

/-- The state once the first pending event is taken. -/
def State.withPending (s : State) (rest : List HostEvent) : State := { s with pending := rest }

/-- A bus read hands its value to the host. -/
def State.pushRead (s : State) (v : Word32) : State := { s with reads := v :: s.reads }

/-- The platform's reset (spec/70_reset_and_hazards.md R290, R292). -/
def State.platformReset (s : State) : State := State.afterReset (s.resets + 1) s.draws s.pending s.reads

end Sys2Proof.Machine
end

