-- ==== Sys2Proof/Machine/Operands.lean ====
section
/-! DEFINITION. The operands of the commands and the registers they write (spec/30_encoding.md R84; spec/42_rsa_key_construction.md
R170): operand registers read as naturals, results written back to 32 bits. -/

namespace Sys2Proof.Machine

/-- RA as an unsigned natural (R170). -/
def State.opA (s : State) : Nat := s.ra.toNat

/-- RB as an unsigned natural (R170). -/
def State.opB (s : State) : Nat := s.rb.toNat

/-- RM as an unsigned natural (R170). -/
def State.opM (s : State) : Nat := s.rm.toNat

/-- RR <- v; each rule that writes RR shows v < 2^32 (R170). -/
def State.setResult (s : State) (v : Nat) : State := { s with rr := BitVec.ofNat 32 v }

/-- BLK <- x (spec/10_state.md R25). -/
def State.setBlk (s : State) (x : Block) : State := { s with blk := x }

/-- W <- x and KV <- 1 (spec/41_aes_key_and_block.md R145). -/
def State.setSchedule (s : State) (x : Schedule) : State := { s with w := x, kv := true }

/-- What deriveKey returns beside p and q (R179). -/
structure KeyPair where
  n : Nat
  r : Nat
  e : Nat
  d : Nat
deriving DecidableEq, Repr

/-- P, Q, N, T, E, D <- p, q, n, r, e, d and PKV <- 1, in one transition (R181, R182; spec/70_reset_and_hazards.md R306). -/
def State.setKeyMaterial (s : State) (p q : Nat) (k : KeyPair) : State :=
  { s with
    p := BitVec.ofNat 32 p, q := BitVec.ofNat 32 q, n := BitVec.ofNat 32 k.n, t := BitVec.ofNat 32 k.r,
    e := BitVec.ofNat 32 k.e, d := BitVec.ofNat 32 k.d, pkv := true }

/-- The entropy source has given `k` more draws (spec/10_state.md R39). -/
def State.advanceDraws (s : State) (k : Nat) : State := { s with draws := s.draws + k }

end Sys2Proof.Machine
end

