-- ==== Sys2Proof/Machine/KeyAndBlock.lean ====
section
/-! DEFINITION. KEYEXP, ENCBLK and DECBLK (spec/41_aes_key_and_block.md R145, R147, R149). -/

namespace Sys2Proof.Machine

/-- KEYEXP klen (R145; spec/60_exceptions.md R265). -/
def execKeyexp (klen : Nat) (s : State) : Outcome :=
  s.complete (if klen ≠ 16 then .error .invalidKeyLength else .ok (s.setSchedule (expandKey s.key)))

/-- ENCBLK (R147). -/
def execEncblk (s : State) : Outcome :=
  s.complete (if s.kv = false then .error .noKey else .ok (s.setBlk (cipher s.w s.blk)))

/-- DECBLK (R149). -/
def execDecblk (s : State) : Outcome :=
  s.complete (if s.kv = false then .error .noKey else .ok (s.setBlk (invCipher s.w s.blk)))

end Sys2Proof.Machine
end

