-- ==== Sys2Proof/Machine/Arith.lean ====
section
/-! DEFINITION. The integer arithmetic of the public-key unit over unbounded naturals (spec/42_rsa_key_construction.md R170 to
R180; spec/43_rsa_operations.md R200). Each loop carries a bound that its rule's own loop never reaches (log entry 7). -/

namespace Sys2Proof.Machine

/-- The trial divisors from d on, while d*d ≤ n (R171), at most `fuel` of them. -/
def trialDivide : Nat → Nat → Nat → Bool
  | 0, _, _ => true
  | fuel + 1, n, d =>
    if d * d ≤ n then (if n % d = 0 then false else trialDivide fuel n (d + 1)) else true

/-- isPrime(n) by trial division up to and including the square root (R171). -/
def isPrime (n : Nat) : Bool := if n < 2 then false else trialDivide n n 2

/-- Euclid's loop on (a, b) (R174). -/
def euclid : Nat → Nat → Nat → Nat
  | 0, a, _ => a
  | fuel + 1, a, b => if b = 0 then a else euclid fuel b (a % b)

/-- gcd(a, b) (R174); gcd(0, 0) = 0. -/
def gcdOf (a b : Nat) : Nat := euclid (b + 1) a b

/-- The extended Euclidean loop of R176 on (r0, r1) and the signed (t0, t1). -/
def bezoutLoop : Nat → Nat → Nat → Int → Int → Int
  | 0, _, _, t0, _ => t0
  | fuel + 1, r0, r1, t0, t1 =>
    if r1 = 0 then t0 else bezoutLoop fuel r1 (r0 - r0 / r1 * r1) t1 (t0 - Int.ofNat (r0 / r1) * t1)

/-- modinv(a, m): the Bézout coefficient brought into [0, m-1] (R176). -/
def modinvOf (a m : Nat) : Nat := (bezoutLoop (a % m + 1) m (a % m) 0 1 % Int.ofNat m).toNat

/-- The square-and-multiply loop of R200 on (acc, base, x). -/
def modexpLoop : Nat → Nat → Nat → Nat → Nat → Nat
  | 0, acc, _, _, _ => acc
  | fuel + 1, acc, base, x, m =>
    if x = 0 then acc
    else modexpLoop fuel (if x % 2 = 1 then acc * base % m else acc) (base * base % m) (x / 2) m

/-- modexp(b, x, m) (R200). -/
def modexpOf (b x m : Nat) : Nat := modexpLoop x 1 (b % m) x m

/-- The exponents from e on, until one is coprime with r (R178). -/
def searchExponent : Nat → Nat → Nat → Nat
  | 0, _, e => e
  | fuel + 1, r, e => if gcdOf e r = 1 then e else searchExponent fuel r (e + 1)

/-- chooseE(r): the least e ≥ 3 with gcd(e, r) = 1 (R178; spec/90_conflicts.md C2). -/
def chooseE (r : Nat) : Nat := searchExponent r r 3

/-- deriveKey(p, q) (R179). -/
def deriveKey (p q : Nat) : KeyPair :=
  { n := p * q
    r := (p - 1) * (q - 1)
    e := chooseE ((p - 1) * (q - 1))
    d := modinvOf (chooseE ((p - 1) * (q - 1))) ((p - 1) * (q - 1)) }

/-- The candidate set PR of KEYGEN, in increasing order (R180). -/
def primesIn (lo hi : Nat) : List Nat := (List.range' lo (hi + 1 - lo)).filter isPrime

/-- draw(PR) for the k-th draw of the entropy source: some element of PR, no more is known of it (R181). Log entry 3. -/
def draw (pr : List Nat) (k : Nat) : Nat := pr.getD (Config.entropy k % pr.length) 0

/-- `a mod b` for an outside caller whose b may be 0. For b ≥ 1 it is R8's; R8 defines none for b = 0, and it is a free value
there (DESIGN CHOICE, log entry 13). -/
def residueOf (a b : Nat) : Nat := if b = 0 then Config.modByZero a else a % b

/-- What KEYLOAD asks of an operand: a prime in [3, 65535] (R182). -/
def legalPrime (x : Nat) : Bool := decide (Config.primeMin ≤ x) && decide (x ≤ Config.primeMax) && isPrime x

end Sys2Proof.Machine
end

