-- ==== Sys2Proof/Machine/KeyConstruction.lean ====
section
/-! DEFINITION. PRIMETEST, GCD, MODINV, KEYGEN and KEYLOAD (spec/42_rsa_key_construction.md R173, R175, R177, R181, R182). -/

namespace Sys2Proof.Machine

/-- PRIMETEST: every RA is legal (R173). -/
def execPrimetest (s : State) : Outcome := s.complete (.ok (s.setResult (if isPrime s.opA then 1 else 0)))

/-- GCD: every RA and RB are legal (R175). -/
def execGcd (s : State) : Outcome := s.complete (.ok (s.setResult (gcdOf s.opA s.opB)))

/-- MODINV: BAD_MODULUS before NOT_INVERTIBLE (R177; spec/60_exceptions.md R267 to R269). -/
def execModinv (s : State) : Outcome :=
  s.complete
    (if s.opM < 2 then .error .badModulus
     else if gcdOf (s.opA % s.opM) s.opM ≠ 1 then .error .notInvertible
     else .ok (s.setResult (modinvOf s.opA s.opM)))

/-- KEYGEN: two independent draws from the primes in [PLO, PHI] (R181; spec/60_exceptions.md R270). -/
def execKeygen (s : State) : Outcome :=
  let pr := primesIn s.plo.toNat s.phi.toNat
  let p := draw pr s.draws
  let q := draw pr (s.draws + 1)
  s.complete
    (if pr.isEmpty then .error .keyGenerationFailure
     else .ok ((s.setKeyMaterial p q (deriveKey p q)).advanceDraws 2))

/-- KEYLOAD (R182; spec/60_exceptions.md R270). -/
def execKeyload (s : State) : Outcome :=
  s.complete
    (if (legalPrime s.opA && legalPrime s.opB) = false then .error .keyGenerationFailure
     else .ok (s.setKeyMaterial s.opA s.opB (deriveKey s.opA s.opB)))

end Sys2Proof.Machine
end

