-- ==== Sys2Proof/Machine/KeyMaterial.lean ====
section
/-! DEFINITION. MODMUL, MODEXP, ENCINT, DECINT and DECBYTE (spec/43_rsa_operations.md R202, R203, R205 to R207). -/

namespace Sys2Proof.Machine

/-- MODMUL: the exact product, reduced (R203). -/
def execModmul (s : State) : Outcome :=
  s.complete (if s.opM < 2 then .error .badModulus else .ok (s.setResult (s.opA * s.opB % s.opM)))

/-- MODEXP (R202). -/
def execModexp (s : State) : Outcome :=
  s.complete (if s.opM < 2 then .error .badModulus else .ok (s.setResult (modexpOf s.opA s.opB s.opM)))

/-- ENCINT: RA ≥ N wraps silently (R205). -/
def execEncint (s : State) : Outcome :=
  s.complete
    (if s.pkv = false then .error .noPublicKey else .ok (s.setResult (modexpOf s.opA s.e.toNat s.n.toNat)))

/-- DECINT: no range check (R206). -/
def execDecint (s : State) : Outcome :=
  s.complete
    (if s.pkv = false then .error .noPublicKey else .ok (s.setResult (modexpOf s.opA s.d.toNat s.n.toNat)))

/-- DECBYTE: DECINT with the range check on the result (R207; spec/60_exceptions.md R272). -/
def execDecbyte (s : State) : Outcome :=
  s.complete
    (if s.pkv = false then .error .noPublicKey
     else if modexpOf s.opA s.d.toNat s.n.toNat > 255 then .error .outOfRangeDecryption
     else .ok (s.setResult (modexpOf s.opA s.d.toNat s.n.toNat)))

end Sys2Proof.Machine
end

