-- ==== Sys2Proof/Machine/RoundOps.lean ====
section
/-! DEFINITION. NOP and the round primitives (spec/40_aes_round_ops.md R112 to R119). -/

namespace Sys2Proof.Machine

/-- NOP: ERR <- 0 and nothing else (R112). -/
def execNop (s : State) : Outcome := s.complete (.ok s)

/-- SUBBYTES (R113); no gate. -/
def execSubbytes (s : State) : Outcome := s.complete (.ok (s.setBlk (subBytes s.blk)))

/-- INVSUBBYTES (R114); no gate. -/
def execInvsubbytes (s : State) : Outcome := s.complete (.ok (s.setBlk (invSubBytes s.blk)))

/-- SHIFTROWS (R115); no gate. -/
def execShiftrows (s : State) : Outcome := s.complete (.ok (s.setBlk (shiftRows s.blk)))

/-- INVSHIFTROWS (R116); no gate. -/
def execInvshiftrows (s : State) : Outcome := s.complete (.ok (s.setBlk (invShiftRows s.blk)))

/-- MIXCOLUMNS (R117); no gate. -/
def execMixcolumns (s : State) : Outcome := s.complete (.ok (s.setBlk (mixColumns s.blk)))

/-- INVMIXCOLUMNS (R118); no gate. -/
def execInvmixcolumns (s : State) : Outcome := s.complete (.ok (s.setBlk (invMixColumns s.blk)))

/-- ADDROUNDKEY rnd: the field check before the gate (R119; spec/60_exceptions.md R263, R264, R267). -/
def execAddroundkey (rnd : Nat) (s : State) : Outcome :=
  s.complete
    (if rnd > 10 then .error .badRound
     else if s.kv = false then .error .noKey
     else .ok (s.setBlk (addRoundKey s.w s.blk rnd)))

end Sys2Proof.Machine
end

