-- ==== Sys2Proof/Machine/Dispatch.lean ====
section
/-! DEFINITION. The opcode map of spec/30_encoding.md R85 as one direct call of a meaning per command. -/

namespace Sys2Proof.Machine

/-- "run the rule of opc" (R89). -/
def exec (i : Instr) (s : State) : Host.Outcome State Fault Refusal :=
  match i with
  | .nop => Sys2Proof.Machine.execNop s
  | .keyexp klen => Sys2Proof.Machine.execKeyexp klen s
  | .encblk => Sys2Proof.Machine.execEncblk s
  | .decblk => Sys2Proof.Machine.execDecblk s
  | .subbytes => Sys2Proof.Machine.execSubbytes s
  | .invsubbytes => Sys2Proof.Machine.execInvsubbytes s
  | .shiftrows => Sys2Proof.Machine.execShiftrows s
  | .invshiftrows => Sys2Proof.Machine.execInvshiftrows s
  | .mixcolumns => Sys2Proof.Machine.execMixcolumns s
  | .invmixcolumns => Sys2Proof.Machine.execInvmixcolumns s
  | .addroundkey rnd => Sys2Proof.Machine.execAddroundkey rnd s
  | .primetest => Sys2Proof.Machine.execPrimetest s
  | .gcd => Sys2Proof.Machine.execGcd s
  | .modinv => Sys2Proof.Machine.execModinv s
  | .keygen => Sys2Proof.Machine.execKeygen s
  | .keyload => Sys2Proof.Machine.execKeyload s
  | .modmul => Sys2Proof.Machine.execModmul s
  | .modexp => Sys2Proof.Machine.execModexp s
  | .encint => Sys2Proof.Machine.execEncint s
  | .decint => Sys2Proof.Machine.execDecint s
  | .decbyte => Sys2Proof.Machine.execDecbyte s

end Sys2Proof.Machine
end

