-- ==== Sys2Proof/Machine/Bus.lean ====
section
/-! DEFINITION. Execute(v) (spec/30_encoding.md R89), BusWrite (spec/20_memory.md R58), and what one host access or one event
does to the machine (R50, R51, R59 to R61; spec/70_reset_and_hazards.md R290 to R292). -/

namespace Sys2Proof.Machine

/-- Execute(v): ILLEGAL_CMD for a word the decoder rejects, else the command (R89; spec/60_exceptions.md R273). -/
def execute (v : Word32) (s : State) : Outcome :=
  match decode v with
  | .error _ => s.complete (.error .illegalCmd)
  | .ok i => exec i s

/-- BusWrite(off, v), for an aligned offset of the window: a CMD write runs its command to completion, a write to a reserved
offset is ignored (R55, R57, R58). -/
def busWrite (s : State) (off : Nat) (v : Word32) : Outcome :=
  match regAt off with
  | some .cmd => execute v s
  | some r => .next (s.writeReg r v)
  | none => .next s

/-- One access of the host. Outside the window it does not reach the core (R50); in the window only an aligned 32-bit access
has a meaning (R51). Log entry 6. -/
def performAccess (a : Access) (s : State) : Outcome :=
  match a.loc.windowOffset with
  | none => .refused .outsideWindow
  | some off =>
    if a.width ≠ 32 then .fault .accessWidth
    else if off % 4 ≠ 0 then .fault .accessMisaligned
    else
      match a.action with
      | .read => .next (s.pushRead (busRead s off))
      | .write v => busWrite s off v

/-- One event: an access, or a reset, which abandons the access it cuts off without any of its writes (R290, R292). -/
def performEvent (ev : HostEvent) (s : State) : Outcome :=
  match ev with
  | .access a => performAccess a s
  | .reset _ => .next s.platformReset

/-- The machine takes the host's first pending event; with none pending no command runs and nothing changes (R20, R61). Log
entry 1. -/
def takeEvent (s : State) : Outcome :=
  match s.pending with
  | [] => .next s
  | ev :: rest => performEvent ev (s.withPending rest)

/-- BusWrite(0x008, v) as the host's next access: "issue C" of spec/00_scope.md R10. -/
def issueEvent (v : Word32) : HostEvent := .access ⟨32, .offset 0x008, .write v⟩

end Sys2Proof.Machine
end

