-- ==== Sys2Proof/Machine/Step.lean ====
section
/-! DEFINITION. One step of the machine: the host's next bus access, which for a CMD write is one command (spec/60_exceptions.md
R281; spec/20_memory.md R60, R61). -/

namespace Sys2Proof.Machine

/-- One step. -/
def step (s : State) : Host.Outcome State Fault Refusal := takeEvent s

/-- `s` with the command word `w` as the host's next access: the core fetches no instructions, and a command exists only as
the value of a CMD write (spec/20_memory.md R64). Log entry 1. -/
def State.withFetchWord (s : State) (nbits w : Nat) : State :=
  { s with pending := issueEvent (BitVec.ofNat 32 (w % 2 ^ nbits)) :: s.pending }

end Sys2Proof.Machine
end

