-- ==== Sys2Proof/Machine/Driver.lean ====
section
/-! DEFINITION. The reference host driver of spec/45_host_procedures.md: software over the bus accesses of R58, with the source's
four error kinds. It adds no state to the core (spec/00_scope.md R4), and it has exclusive use of the core while a procedure
runs (R243): it leaves `pending` and `reads` alone. Log entry 8. -/

namespace Sys2Proof.Machine

/-- What a driver procedure reports instead of a value (R230). -/
inductive HostError where
  | invalidKeyLength
  | invalidCiphertextLength
  | outOfRangeDecryption
  | keyGenerationFailure
  /-- Any other nonzero STATUS.ERR: "It must stop and report, not retry". -/
  | unexpected (code : BitVec 4)
deriving DecidableEq, Repr

/-- How a driver procedure ends: with a value, with an error, or as a model fault or refusal; the core is left in `s`. -/
inductive DriverResult (α : Type) where
  | ok (s : State) (a : α)
  | error (s : State) (e : HostError)
  | fault (r : Fault)
  | refused (r : Refusal)
deriving DecidableEq, Repr

/-- The next part of a procedure runs only where the part before it gave a value: "no partial output" (R235, R238). -/
def DriverResult.andThen {α β : Type} (x : DriverResult α) (f : State → α → DriverResult β) : DriverResult β :=
  match x with
  | .ok s a => f s a
  | .error s e => .error s e
  | .fault r => .fault r
  | .refused r => .refused r

/-- BusWrite(off, v) by the driver. -/
def hostWrite (off : Nat) (v : Word32) (s : State) : DriverResult Unit :=
  match busWrite s off v with
  | .next t => .ok t ()
  | .fault r => .fault r
  | .refused r => .refused r

/-- The error kind of a STATUS.ERR code (R230). -/
def hostErrorOf (code : BitVec 4) : HostError :=
  if code = CmdError.invalidKeyLength.code then .invalidKeyLength
  else if code = CmdError.outOfRangeDecryption.code then .outOfRangeDecryption
  else if code = CmdError.keyGenerationFailure.code then .keyGenerationFailure
  else .unexpected code

/-- STATUS.ERR as the driver reads it over the bus. -/
def hostReadErr (s : State) : BitVec 4 := (busRead s 0x004).extractLsb' 4 4

/-- Issue a command and read STATUS before the next one (R230; spec/70_reset_and_hazards.md R301, R302). -/
def hostIssue (i : Instr) (s : State) : DriverResult Unit :=
  (hostWrite 0x008 (encode i) s).andThen fun t _ =>
    if hostReadErr t = 0#4 then .ok t () else .error t (hostErrorOf (hostReadErr t))

/-- LOADKEY (`off` = 0x010) and LOADBLK (`off` = 0x020): four word writes (spec/30_encoding.md R91). -/
def hostLoad (off : Nat) (x : Block) (s : State) : DriverResult Unit :=
  (hostWrite off (blockWord x 0) s).andThen fun s _ =>
    (hostWrite (off + 4) (blockWord x 1) s).andThen fun s _ =>
      (hostWrite (off + 8) (blockWord x 2) s).andThen fun s _ =>
        hostWrite (off + 12) (blockWord x 3) s

/-- READBLK: the 16 bytes of four word reads (spec/30_encoding.md R91). -/
def hostReadBlk (s : State) : Block :=
  Vector.ofFn fun i => laneOf (busRead s (0x020 + 4 * (i.val / 4))) (i.val % 4)

/-! The block cipher. -/

/-- The 16 bytes from 16i on; a byte string that ends before has 0x00 there. -/
def blockAt (x : List Byte) (i : Nat) : Block := Vector.ofFn fun j => x.getD (16 * i + j.val) 0#8

/-- BlockCipherConstruct(k): KEY is always written, so KV is cleared (R231). -/
def blockCipherConstruct (k : List Byte) (s : State) : DriverResult Unit :=
  (hostLoad 0x010 (blockAt k 0) s).andThen fun s _ => hostIssue (.keyexp (min k.length 255)) s

/-- padLength, in [1, 16] (R232). -/
def padLength (len : Nat) : Nat := 16 - len % 16

/-- pad(s) (R232). -/
def padMessage (x : List Byte) : List Byte :=
  x ++ List.replicate (padLength x.length) (BitVec.ofNat 8 (padLength x.length))

/-- unpad(x): the last byte is trusted; one above the length is the fault HostUnpadOverrun (R234), and so is an empty string,
which has no last byte and which no procedure passes. -/
def unpadMessage (x : List Byte) : Except Fault (List Byte) :=
  match x.getLast? with
  | none => .error .hostUnpadOverrun
  | some pl => if pl.toNat > x.length then .error .hostUnpadOverrun else .ok (x.take (x.length - pl.toNat))

/-- The loop of R233 and R235 over the block numbers: LOADBLK, one block command, READBLK. -/
def blockLoop (i : Instr) (x : List Byte) : List Nat → State → List Byte → DriverResult (List Byte)
  | [], s, out => .ok s out
  | k :: ks, s, out =>
    (hostLoad 0x020 (blockAt x k) s).andThen fun s _ =>
      (hostIssue i s).andThen fun s _ => blockLoop i x ks s (out ++ (hostReadBlk s).toList)

/-- EncryptMessage(s), after a successful construct (R233). -/
def encryptMessage (x : List Byte) (s : State) : DriverResult (List Byte) :=
  blockLoop .encblk (padMessage x) (List.range ((padMessage x).length / 16)) s []

/-- DecryptMessage(c) (R235; spec/90_conflicts.md C4). -/
def decryptMessage (c : List Byte) (s : State) : DriverResult (List Byte) :=
  if c.length = 0 ∨ c.length % 16 ≠ 0 then .error s .invalidCiphertextLength
  else
    (blockLoop .decblk c (List.range (c.length / 16)) s []).andThen fun s x =>
      match unpadMessage x with
      | .ok m => .ok s m
      | .error r => .fault r

/-! The public-key cipher. -/

/-- (p, q, n, r, e, d) as read back from the core (R236). -/
structure KeyReport where
  p : Word32
  q : Word32
  n : Word32
  r : Word32
  e : Word32
  d : Word32
deriving DecidableEq, Repr

/-- The six key-material registers over the bus (R236). -/
def hostReadKeys (s : State) : KeyReport :=
  { p := busRead s 0x060, q := busRead s 0x064, n := busRead s 0x068
    r := busRead s 0x06C, e := busRead s 0x070, d := busRead s 0x074 }

/-- PublicKeyConstruct() (R236). -/
def publicKeyConstruct (s : State) : DriverResult KeyReport :=
  (hostIssue .keygen s).andThen fun s _ => .ok s (hostReadKeys s)

/-- The reproducible construct: `wr RA, p` `wr RB, q` `KEYLOAD` in place of KEYGEN (R236). -/
def publicKeyLoad (p q : Word32) (s : State) : DriverResult KeyReport :=
  (hostWrite 0x040 p s).andThen fun s _ =>
    (hostWrite 0x044 q s).andThen fun s _ => (hostIssue .keyload s).andThen fun s _ => .ok s (hostReadKeys s)

/-- One symbol: write RA, issue the command, read RR (R237, R238). -/
def hostSymbol (i : Instr) (a : Word32) (s : State) : DriverResult Word32 :=
  (hostWrite 0x040 a s).andThen fun s _ => (hostIssue i s).andThen fun s _ => .ok s (busRead s 0x04C)

/-- encryptString(t), from the output so far (R237). -/
def encryptStringFrom : List Byte → State → List Word32 → DriverResult (List Word32)
  | [], s, out => .ok s out
  | b :: bs, s, out =>
    (hostSymbol .encint (b.setWidth 32) s).andThen fun s v => encryptStringFrom bs s (out ++ [v])

/-- encryptString(t) (R237). -/
def encryptString (x : List Byte) (s : State) : DriverResult (List Word32) := encryptStringFrom x s []

/-- decryptString(cs), from the output so far: RA takes c mod N (R238, decision D41), cut to 32 bits. While PKV = 0 the
register N may hold 0, for which c mod N is defined nowhere (R8): RA then takes a free value, before the command reports
NO_PUBLIC_KEY (DESIGN CHOICE, log entry 13). -/
def decryptStringFrom : List Nat → State → List Byte → DriverResult (List Byte)
  | [], s, out => .ok s out
  | c :: cs, s, out =>
    (hostSymbol .decbyte (BitVec.ofNat 32 (residueOf c (busRead s 0x068).toNat)) s).andThen fun s v =>
      decryptStringFrom cs s (out ++ [v.setWidth 8])

/-- decryptString(cs) (R238). -/
def decryptString (cs : List Nat) (s : State) : DriverResult (List Byte) := decryptStringFrom cs s []

end Sys2Proof.Machine
end

