-- ==== Sys2Proof/Machine/Program.lean ====
section
/-! DEFINITION. Host programs: the statements of spec/30_encoding.md R90 and the pseudo-commands of R91, as the accesses they
stand for. A program is the host's sequence of bus accesses (spec/10_state.md R20). -/

namespace Sys2Proof.Machine

/-- A statement of R90. The value after "->" states what the rules give; it is no part of the access.
The number of a `field=num` may be too wide for its field: the word is then the one `encode` gives (log entry 14). -/
inductive Stmt where
  | wr (off : Nat) (v : Word32)
  | rd (off : Nat) (expected : Option Word32)
  | cmd (i : Instr)
deriving DecidableEq, Repr

/-- The access a statement stands for (R90). -/
def Stmt.event : Stmt → HostEvent
  | .wr off v => .access ⟨32, .offset off, .write v⟩
  | .rd off _ => .access ⟨32, .offset off, .read⟩
  | .cmd i => issueEvent (encode i)

/-- `s` with a program placed after what the host still has to do. -/
def State.withProgram (s : State) (prog : List Stmt) : State :=
  { s with pending := s.pending ++ prog.map Stmt.event }

/-- `wr` of a named register (R90). -/
def wrReg (r : Reg) (v : Word32) : Stmt := .wr r.offset v

/-- `rd` of a named register (R90). -/
def rdReg (r : Reg) : Stmt := .rd r.offset none

/-- KEYEXP with klen omitted means klen=16 (R90). -/
def keyexpStmt : Stmt := .cmd (.keyexp 16)

/-- LOADKEY k (R91). -/
def loadKeyStmts (k : Block) : List Stmt :=
  [wrReg (.key 0) (blockWord k 0), wrReg (.key 1) (blockWord k 1), wrReg (.key 2) (blockWord k 2), wrReg (.key 3) (blockWord k 3)]

/-- SETKEY k (R91). -/
def setKeyStmts (k : Block) : List Stmt := loadKeyStmts k ++ [keyexpStmt]

/-- LOADBLK b (R91). -/
def loadBlkStmts (b : Block) : List Stmt :=
  [wrReg (.blk 0) (blockWord b 0), wrReg (.blk 1) (blockWord b 1), wrReg (.blk 2) (blockWord b 2), wrReg (.blk 3) (blockWord b 3)]

/-- READBLK (R91). -/
def readBlkStmts : List Stmt := [rdReg (.blk 0), rdReg (.blk 1), rdReg (.blk 2), rdReg (.blk 3)]

/-- ROUND r, r = 1..9 (R91). -/
def roundStmts (r : Nat) : List Stmt :=
  [.cmd .subbytes, .cmd .shiftrows, .cmd .mixcolumns, .cmd (.addroundkey r)]

/-- FINALROUND (R91). -/
def finalRoundStmts : List Stmt := [.cmd .subbytes, .cmd .shiftrows, .cmd (.addroundkey 10)]

/-- INVROUND r, r = 9..1 (R91). -/
def invRoundStmts (r : Nat) : List Stmt :=
  [.cmd .invshiftrows, .cmd .invsubbytes, .cmd (.addroundkey r), .cmd .invmixcolumns]

/-- INVFINALROUND (R91). -/
def invFinalRoundStmts : List Stmt := [.cmd .invshiftrows, .cmd .invsubbytes, .cmd (.addroundkey 0)]

/-- PK3 a, b, m, C (R91). -/
def pk3Stmts (a b m : Word32) (i : Instr) : List Stmt :=
  [wrReg .ra a, wrReg .rb b, wrReg .rm m, .cmd i, rdReg .rr]

end Sys2Proof.Machine
end

