-- ==== Sys2Proof/Safety.lean ====
section
/-! DEFINITION. What counts as a good state and a safe host: the invariants the spec states for the machine (spec/10_state.md
R27, R30 to R37; spec/60_exceptions.md R261) and the accesses that have a meaning (spec/20_memory.md R50, R51). -/

namespace Sys2Proof.Machine

/-- "the schedule W was derived from the current KEY" (R23, R27). -/
def State.ScheduleCurrent (s : State) : Prop := s.w = expandKey s.key

/-- The key-material invariant (R37) with the ranges of R31 to R35. -/
def State.KeyMaterialValid (s : State) : Prop :=
  legalPrime s.p.toNat = true ∧ legalPrime s.q.toNat = true ∧
  s.n.toNat = s.p.toNat * s.q.toNat ∧ s.t.toNat = (s.p.toNat - 1) * (s.q.toNat - 1) ∧
  3 ≤ s.e.toNat ∧ s.e.toNat ≤ s.t.toNat - 1 ∧ Nat.gcd s.e.toNat s.t.toNat = 1 ∧
  1 ≤ s.d.toNat ∧ s.d.toNat ≤ s.t.toNat - 1 ∧ s.e.toNat * s.d.toNat % s.t.toNat = 1

/-- PLO and PHI hold clamped values (R30). -/
def State.RangeLegal (s : State) : Prop :=
  3 ≤ s.plo.toNat ∧ s.plo.toNat ≤ 65535 ∧ 3 ≤ s.phi.toNat ∧ s.phi.toNat ≤ 65535

/-- ERR holds one of the codes 0x0 to 0x9 (R261). -/
def State.ErrLegal (s : State) : Prop := s.err.toNat ≤ 9

/-- The invariant of the machine. -/
def State.Inv (s : State) : Prop :=
  (s.kv = true → s.ScheduleCurrent) ∧ (s.pkv = true → s.KeyMaterialValid) ∧ s.RangeLegal ∧ s.ErrLegal

/-- An access the core defines: 32 bits wide, at an aligned offset of the window (R51). -/
def Access.defined (a : Access) : Bool :=
  match a.loc.windowOffset with
  | some off => a.width == 32 && off % 4 == 0
  | none => false

/-- An event that never stops the machine. -/
def HostEvent.defined : HostEvent → Bool
  | .access a => a.defined
  | .reset _ => true

/-- A host that keeps to the accesses the core defines. -/
def State.SafeHost (s : State) : Prop := ∀ ev ∈ s.pending, ev.defined = true

/-- The state elements of the block cipher unit (spec/00_scope.md R2, spec/10_state.md section 3). -/
def State.SameBcu (s t : State) : Prop := s.kv = t.kv ∧ s.key = t.key ∧ s.blk = t.blk ∧ s.w = t.w

/-- The state elements of the public-key unit (R2, section 4), with the entropy source's position. -/
def State.SamePku (s t : State) : Prop :=
  s.pkv = t.pkv ∧ s.ra = t.ra ∧ s.rb = t.rb ∧ s.rm = t.rm ∧ s.rr = t.rr ∧ s.plo = t.plo ∧ s.phi = t.phi ∧
  s.p = t.p ∧ s.q = t.q ∧ s.n = t.n ∧ s.t = t.t ∧ s.e = t.e ∧ s.d = t.d ∧ s.draws = t.draws

/-- The commands of the block cipher unit (spec/30_encoding.md R85). -/
def isBcuCommand : Instr → Bool
  | .keyexp _ | .encblk | .decblk | .subbytes | .invsubbytes | .shiftrows | .invshiftrows | .mixcolumns | .invmixcolumns
  | .addroundkey _ => true
  | .nop | .primetest | .gcd | .modinv | .keygen | .keyload | .modmul | .modexp | .encint | .decint | .decbyte => false

/-- The commands of the public-key unit (spec/30_encoding.md R85). -/
def isPkuCommand : Instr → Bool
  | .primetest | .gcd | .modinv | .keygen | .keyload | .modmul | .modexp | .encint | .decint | .decbyte => true
  | .nop | .keyexp _ | .encblk | .decblk | .subbytes | .invsubbytes | .shiftrows | .invshiftrows | .mixcolumns
  | .invmixcolumns | .addroundkey _ => false

end Sys2Proof.Machine
end

