-- ==== Sys2Proof/Certificates/Slice0/Obligations.lean ====
section
/-! DEFINITION. The statements for the provers, from the numbered rules of spec/. The definitions under `Sys2Proof.Spec` say
what a rule says in the rule's own form, apart from the model's functions. -/

namespace Sys2Proof.Spec

open Sys2Proof.Machine

/-! The bus pseudocode of spec/20_memory.md R58. -/

/-- Byte i of a 16-byte group. -/
def byteAt (x : Block) (i : Nat) : Byte := x.toList.getD i 0

/-- Byte j of a schedule word. -/
def quadByteAt (x : Quad) (j : Nat) : Byte := x.toList.getD j 0

/-- x[i+3]<<24 | x[i+2]<<16 | x[i+1]<<8 | x[i]. -/
def le32 (f : Nat → Byte) (i : Nat) : Word32 :=
  ((f (i + 3)).setWidth 32 <<< 24) ||| ((f (i + 2)).setWidth 32 <<< 16) ||| ((f (i + 1)).setWidth 32 <<< 8) |||
    (f i).setWidth 32

/-- X[at + j] <- v[8j+7:8j] for j in 0..3. -/
def putWord (x : Block) (base : Nat) (v : Word32) : Block :=
  Vector.ofFn fun i => if base ≤ i.val ∧ i.val < base + 4 then v.extractLsb' (8 * (i.val - base)) 8 else x[i]

/-- The case table of BusRead(off). -/
def busReadTable (s : State) (off : Nat) : Word32 :=
  if off = 0x000 then 0x434C4B01#32
  else if off = 0x004 then (s.err.setWidth 32 <<< 4) ||| (if s.pkv then 2#32 else 0#32) ||| (if s.kv then 1#32 else 0#32)
  else if 0x010 ≤ off ∧ off ≤ 0x01C then le32 (byteAt s.key) (off - 0x010)
  else if 0x020 ≤ off ∧ off ≤ 0x02C then le32 (byteAt s.blk) (off - 0x020)
  else if off = 0x040 then s.ra
  else if off = 0x044 then s.rb
  else if off = 0x048 then s.rm
  else if off = 0x04C then s.rr
  else if off = 0x050 then s.plo
  else if off = 0x054 then s.phi
  else if off = 0x060 then s.p
  else if off = 0x064 then s.q
  else if off = 0x068 then s.n
  else if off = 0x06C then s.t
  else if off = 0x070 then s.e
  else if off = 0x074 then s.d
  else if 0x100 ≤ off ∧ off ≤ 0x1AC then le32 (quadByteAt (schedWord s.w ((off - 0x100) / 4))) 0
  else 0#32

/-- The case table of BusWrite(off, v), CMD aside. -/
def busWriteTable (s : State) (off : Nat) (v : Word32) : State :=
  if 0x010 ≤ off ∧ off ≤ 0x01C then { s with key := putWord s.key (off - 0x010) v, kv := false }
  else if 0x020 ≤ off ∧ off ≤ 0x02C then { s with blk := putWord s.blk (off - 0x020) v }
  else if off = 0x040 then { s with ra := v }
  else if off = 0x044 then { s with rb := v }
  else if off = 0x048 then { s with rm := v }
  else if off = 0x050 then { s with plo := BitVec.ofNat 32 (min (max v.toNat 3) 65535) }
  else if off = 0x054 then { s with phi := BitVec.ofNat 32 (min (max v.toNat 3) 65535) }
  else s

/-! Words and errors. -/

/-- The OPC values of R85's map. -/
def LegalOpcode (o : Nat) : Prop := o ≤ 0x0A ∨ (0x20 ≤ o ∧ o ≤ 0x24) ∨ (0x30 ≤ o ∧ o ≤ 0x34)

/-- The illegal words of R86 and R87, by the bit numbers of R80. -/
def IllegalWord (v : Word32) : Prop :=
  ¬ LegalOpcode (v.toNat % 256) ∨ v.toNat / 2 ^ 24 ≠ 0 ∨ v.toNat / 2 ^ 12 % 16 ≠ 0 ∨
  (v.toNat / 2 ^ 16 % 256 ≠ 0 ∧ v.toNat % 256 ≠ 0x01) ∨ (v.toNat / 2 ^ 8 % 16 ≠ 0 ∧ v.toNat % 256 ≠ 0x0A)

/-- A prime operand KEYLOAD accepts (R182). -/
def LegalPrime (x : Nat) : Prop := 3 ≤ x ∧ x ≤ 65535 ∧ Nat.Prime x

/-- The checks of R267 in its order, each with the code it reports. -/
def errorChecks (v : Word32) (s : State) : List (Prop × BitVec 4) :=
  let opc := v.toNat % 256
  [ (IllegalWord v, 0x1#4),
    (opc = 0x01 ∧ v.toNat / 2 ^ 16 % 256 ≠ 16, 0x2#4),
    (opc = 0x0A ∧ v.toNat / 2 ^ 8 % 16 > 10, 0x4#4),
    ((opc = 0x02 ∨ opc = 0x03 ∨ opc = 0x0A) ∧ s.kv = false, 0x3#4),
    ((opc = 0x32 ∨ opc = 0x33 ∨ opc = 0x34) ∧ s.pkv = false, 0x8#4),
    ((opc = 0x22 ∨ opc = 0x30 ∨ opc = 0x31) ∧ s.rm.toNat < 2, 0x5#4),
    (opc = 0x22 ∧ Nat.gcd (s.ra.toNat % s.rm.toNat) s.rm.toNat ≠ 1, 0x6#4),
    (opc = 0x23 ∧ ¬ ∃ x, s.plo.toNat ≤ x ∧ x ≤ s.phi.toNat ∧ Nat.Prime x, 0x7#4),
    (opc = 0x24 ∧ ¬ (LegalPrime s.ra.toNat ∧ LegalPrime s.rb.toNat), 0x7#4),
    (opc = 0x34 ∧ s.ra.toNat ^ s.d.toNat % s.n.toNat > 255, 0x9#4) ]

/-- The code of the first check that applies, 0 if none does. -/
def FirstError : List (Prop × BitVec 4) → BitVec 4 → Prop
  | [], c => c = 0#4
  | (p, code) :: rest, c => (p ∧ c = code) ∨ (¬ p ∧ FirstError rest c)

/-- The commands that write RR on success (R29, R84). -/
def writesRR : Instr → Bool
  | .primetest | .gcd | .modinv | .modmul | .modexp | .encint | .decint | .decbyte => true
  | _ => false

/-- The commands that write BLK on success (R25, R84). -/
def writesBlk : Instr → Bool
  | .encblk | .decblk | .subbytes | .invsubbytes | .shiftrows | .invshiftrows | .mixcolumns | .invmixcolumns
  | .addroundkey _ => true
  | _ => false

/-- The command that writes W and KV (R26, R27, R84). -/
def writesSchedule : Instr → Bool
  | .keyexp _ => true
  | _ => false

/-- The commands that write the key material and PKV (R36, R84). -/
def writesKeys : Instr → Bool
  | .keygen | .keyload => true
  | _ => false

/-! The field GF(2^8), by polynomials. -/

/-- The product of two polynomials over GF(2), without reduction (R100). -/
def clmul (a b : Byte) : BitVec 16 :=
  (List.range 8).foldl (fun acc i => if b.getLsbD i then acc ^^^ (a.setWidth 16 <<< i) else acc) 0#16

/-- The remainder of a polynomial of degree below 16 modulo 0x11B (R100). -/
def polyMod (x : BitVec 16) : Byte :=
  ([7, 6, 5, 4, 3, 2, 1, 0].foldl (fun r i => if r.getLsbD (8 + i) then r ^^^ (0x11B#16 <<< i) else r) x).setWidth 8

/-! Host programs. -/

/-- `ADDROUNDKEY rnd=0`, ROUND 1 .. ROUND 9, FINALROUND (R91). -/
def encryptByRounds : List Stmt :=
  [.cmd (.addroundkey 0)] ++ [1, 2, 3, 4, 5, 6, 7, 8, 9].flatMap roundStmts ++ finalRoundStmts

/-- `ADDROUNDKEY rnd=10`, INVROUND 9 .. INVROUND 1, INVFINALROUND (R91). -/
def decryptByRounds : List Stmt :=
  [.cmd (.addroundkey 10)] ++ [9, 8, 7, 6, 5, 4, 3, 2, 1].flatMap invRoundStmts ++ invFinalRoundStmts

/-- The host's next event is a write of `v` to window offset `off`, 32 bits wide. -/
def NextWrite (s : State) (off : Nat) (v : Word32) : Prop :=
  ∃ loc rest, s.pending = .access ⟨32, loc, .write v⟩ :: rest ∧ loc.windowOffset = some off

/-- The platform resets the core next. -/
def NextReset (s : State) : Prop := ∃ a rest, s.pending = .reset a :: rest

end Sys2Proof.Spec

open Sys2Proof Sys2Proof.Machine Sys2Proof.Spec

/-! Encoding. -/

/-- R80, R85, R89: decoding an encoded well-formed command gives it back. -/
def Obligations.DecodeEncodeAgree : Prop :=
  ∀ i : Instr, i.wellFormed = true → decode (encode i) = .ok i

/-- R80, R88, R89: each accepted word is the encoding of the one well-formed command it decodes to. -/
def Obligations.AcceptedWordIsItsEncoding : Prop :=
  ∀ (v : Word32) (i : Instr), decode v = .ok i → i.wellFormed = true ∧ encode i = v

/-- Words written out from R80 and R85, one per family. -/
def Obligations.SpecWordsDecode : Prop :=
  decode 0x00000000#32 = .ok .nop ∧ decode 0x00100001#32 = .ok (.keyexp 16) ∧ decode 0x00000003#32 = .ok .decblk ∧
  decode 0x0000030A#32 = .ok (.addroundkey 3) ∧ decode 0x00000F0A#32 = .ok (.addroundkey 15) ∧
  decode 0x00000024#32 = .ok .keyload ∧ decode 0x00000034#32 = .ok .decbyte ∧
  decode 0x0000000B#32 = .error .undefinedOpcode ∧ decode 0x80000000#32 = .error .reservedField ∧
  decode 0x00001002#32 = .error .reservedField ∧ decode 0x00100002#32 = .error .unusedKlen ∧
  decode 0x00000100#32 = .error .unusedRnd

/-- R86 (with R87's undefined opcodes): an illegal word sets ERR to ILLEGAL_CMD and changes nothing else, and every other word
runs the command of its opcode. -/
def Obligations.IllegalWordsRaiseIllegalCmd : Prop :=
  ∀ (v : Word32) (s : State),
    (IllegalWord v → execute v s = .next { s with err := 0x1#4 }) ∧
    (¬ IllegalWord v → ∃ i, decode v = .ok i ∧ i.opc = v.setWidth 8 ∧ execute v s = exec i s)

/-! Steps and accesses. -/

/-- R21, R89: a step whose next access is a CMD write of a command word is `exec` of that command on the state without that
access. That the host's accesses are a list of the state, and that `withFetchWord` places such an access at its head, is the
model's choice (log entry 1, DESIGN CHOICE). -/
def Obligations.StepRunsDecodedCommand : Prop :=
  (∀ (s : State) (v : Word32) (i : Instr) (rest : List HostEvent),
    s.pending = issueEvent v :: rest → decode v = .ok i → step s = exec i { s with pending := rest }) ∧
  (∀ (s : State) (w : Nat) (i : Instr), decodeTableWord 32 w = some i → step (s.withFetchWord 32 w) = exec i s)

/-- R58: BusRead and BusWrite at every aligned offset of the window. -/
def Obligations.BusActionsFollowPseudocode : Prop :=
  ∀ (s : State) (off : Nat) (v : Word32), off % 4 = 0 → off ≤ 0x1FC →
    busRead s off = busReadTable s off ∧
    busWrite s off v = if off = 0x008 then execute v s else .next (busWriteTable s off v)

/-- R50, R61: an aligned 32-bit access in the window, by offset or by bus address, is one BusRead, whose value the host
gets, or one BusWrite. The list of accesses and recording the values are the model's choice (log entries 1 and 5), and that a
bus address reaches the core at its distance from CORE_BASE is log entry 4. -/
def Obligations.StepPerformsDefinedAccess : Prop :=
  ∀ (s : State) (loc : BusLocation) (act : BusAction) (rest : List HostEvent) (off : Nat),
    s.pending = .access ⟨32, loc, act⟩ :: rest → off < 0x200 → off % 4 = 0 →
    (loc = .offset off ∨ loc = .address (Config.coreBase + off)) →
    step s = match act with
      | .read => .next { s with pending := rest, reads := busRead s off :: s.reads }
      | .write v => busWrite { s with pending := rest } off v

/-- R50, R51: every other access stops the machine. The list of accesses and the names and order of the stops are
the model's choice (log entries 1 and 6). -/
def Obligations.UndefinedAccessStops : Prop :=
  ∀ (s : State) (width : Nat) (loc : BusLocation) (act : BusAction) (rest : List HostEvent),
    s.pending = .access ⟨width, loc, act⟩ :: rest →
    (loc.windowOffset = none → step s = .refused .outsideWindow) ∧
    (∀ off, loc.windowOffset = some off → width ≠ 32 → step s = .fault .accessWidth) ∧
    (∀ off, loc.windowOffset = some off → width = 32 → off % 4 ≠ 0 → step s = .fault .accessMisaligned)

/-- R50: which bus addresses reach the core, and at which offset. That CORE_BASE is a multiple of 0x200 is no part of R50: the
model deduces it from decision D39 and R5 (log entry 4, DEDUCED). -/
def Obligations.BusAddressReachesWindow : Prop :=
  Config.coreBase % 0x200 = 0 ∧
  ∀ a : Nat, (BusLocation.address a).windowOffset =
    if Config.coreBase ≤ a ∧ a < Config.coreBase + 0x200 then some (a - Config.coreBase) else none

/-- R41: the values the spec gives for reset, and how the ID and STATUS registers read then. -/
def Obligations.ResetLeavesSpecifiedValues : Prop :=
  State.reset.kv = false ∧ State.reset.pkv = false ∧ State.reset.err = 0#4 ∧ State.reset.plo = 100#32 ∧
  State.reset.phi = 199#32 ∧ busRead State.reset 0x000 = 0x434C4B01#32 ∧ busRead State.reset 0x004 = 0#32

/-- R290, R292: a platform reset, whatever access it cuts off, leaves the reset values, and every unspecified element at the
free value of that reset. That free value, and what goes on (the host's list, its values, the draws), are the model's
choice (log entry 2), and so is the reset as an event of the host's list (log entry 11). -/
def Obligations.PlatformResetFromAnyState : Prop :=
  ∀ (s : State) (a : Option Access) (rest : List HostEvent), s.pending = .reset a :: rest →
    step s = .next (State.afterReset (s.resets + 1) s.draws rest s.reads)

/-- R20: with no access of the host pending, nothing changes. That this is a step is the model's choice (log entry 1). -/
def Obligations.IdleHostChangesNothing : Prop :=
  ∀ s : State, s.pending = [] → step s = .next s

/-- R57: reads have no side effect on the core, and two reads in a row return the same value. The list of accesses and the
record of the values are the model's choice (log entries 1 and 5). -/
def Obligations.RepeatedReadsAgree : Prop :=
  ∀ (s : State) (off : Nat) (rest : List HostEvent), off < 0x200 → off % 4 = 0 →
    s.pending = .access ⟨32, .offset off, .read⟩ :: .access ⟨32, .offset off, .read⟩ :: rest →
    Host.Core.run core 2 s =
      .next { s with pending := rest, reads := busRead s off :: busRead s off :: s.reads }

/-- R300, R312: a host that keeps to the defined accesses is never stopped, for any number of steps. The steps after its last
access are idle steps, which are the model's choice (log entry 1, DESIGN CHOICE), and so is a reset as an event among the
accesses (log entry 11, DESIGN CHOICE); that a defined access is an aligned 32-bit one is R51. -/
def Obligations.SafeHostNeverStops : Prop :=
  ∀ (k : Nat) (s : State), s.SafeHost → ∃ t : State, Host.Core.run core k s = .next t ∧ t.SafeHost

/-! Invariants. -/

/-- R27, R30 to R37, R261: a step keeps the invariant of the machine. What a step is beside an access (idle, a reset) is the
model's choice (log entries 1 and 11). -/
def Obligations.StepKeepsMachineInvariant : Prop :=
  ∀ s t : State, s.Inv → step s = .next t → t.Inv

/-- The invariant holds after reset. -/
def Obligations.ResetMeetsMachineInvariant : Prop := State.reset.Inv

/-- R27: KV is set only by KEYEXP with klen 16 and cleared only by reset and by a write to KEY0..KEY3; W changes only by that
KEYEXP and by reset. The list the next write or reset stands in is the model's choice (log entries 1 and 11). -/
def Obligations.KvChangesOnlyAsStated : Prop :=
  ∀ s t : State, step s = .next t →
    (s.kv = false → t.kv = true → NextWrite s 0x008 0x00100001#32) ∧
    (s.kv = true → t.kv = false → NextReset s ∨ ∃ (k : Fin 4) (v : Word32), NextWrite s (0x010 + 4 * k.val) v) ∧
    (t.w ≠ s.w → NextReset s ∨ NextWrite s 0x008 0x00100001#32) ∧
    (∀ (k : Fin 4) (v : Word32), NextWrite s (0x010 + 4 * k.val) v → t.kv = false ∧ t.w = s.w)

/-- R36: PKV is set only by KEYGEN or KEYLOAD and cleared only by reset; the key material changes only so. The
list the next write or reset stands in is the model's choice (log entries 1 and 11). -/
def Obligations.PkvChangesOnlyAsStated : Prop :=
  ∀ s t : State, step s = .next t →
    (s.pkv = false → t.pkv = true → NextWrite s 0x008 0x00000023#32 ∨ NextWrite s 0x008 0x00000024#32) ∧
    (s.pkv = true → t.pkv = false → NextReset s) ∧
    ((t.p, t.q, t.n, t.t, t.e, t.d) ≠ (s.p, s.q, s.n, s.t, s.e, s.d) →
      NextReset s ∨ NextWrite s 0x008 0x00000023#32 ∨ NextWrite s 0x008 0x00000024#32)

/-- R57, R301: ERR changes only by a command or a reset. The list these stand in is the model's choice (log entries 1 and
11). -/
def Obligations.ErrChangesOnlyByCommands : Prop :=
  ∀ s t : State, step s = .next t → t.err ≠ s.err → NextReset s ∨ ∃ v, NextWrite s 0x008 v

/-! Errors. -/

/-- R260, R262: a command either leaves ERR 0, or leaves a nonzero code and nothing else; what it does never depends on the
old ERR. -/
def Obligations.FailedCommandChangesOnlyErr : Prop :=
  ∀ (v : Word32) (s : State),
    (∃ t, execute v s = .next t ∧ (t.err = 0#4 ∨ (t.err ≠ 0#4 ∧ t = { s with err := t.err }))) ∧
    ∀ c : BitVec 4, execute v { s with err := c } = execute v s

/-- R267: every word completes, and ERR is the code of the first check that applies. -/
def Obligations.ErrorPriority : Prop :=
  ∀ (v : Word32) (s : State), ∃ t, execute v s = .next t ∧ FirstError (errorChecks v s) t.err

/-! What commands leave unchanged. -/

/-- R84 (its "writes on success" column): every command leaves KEY, RA, RB, RM, PLO and PHI, and each other register that its
row does not list. The host's list, its values and the reset count are no command's business; only KEYGEN draws. -/
def Obligations.CommandFrame : Prop :=
  ∀ (i : Instr) (s t : State), exec i s = .next t →
    (t.key = s.key ∧ t.ra = s.ra ∧ t.rb = s.rb ∧ t.rm = s.rm ∧ t.plo = s.plo ∧ t.phi = s.phi) ∧
    (t.pending = s.pending ∧ t.reads = s.reads ∧ t.resets = s.resets) ∧
    (writesBlk i = false → t.blk = s.blk) ∧
    (writesSchedule i = false → t.w = s.w ∧ t.kv = s.kv) ∧
    (writesRR i = false → t.rr = s.rr) ∧
    (writesKeys i = false →
      t.p = s.p ∧ t.q = s.q ∧ t.n = s.n ∧ t.t = s.t ∧ t.e = s.e ∧ t.d = s.d ∧ t.pkv = s.pkv) ∧
    (i ≠ .keygen → t.draws = s.draws)

/-- R308: neither unit's commands read or write the other unit's state; ERR is the one shared element, and apart from it the
order of a command of each unit makes no difference. The draw counter counts as state of the public-key unit: for KEYGEN the
clauses that compare two runs rest on the model's entropy source (log entry 3, DESIGN CHOICE), whose k-th draw is the same in
both. Of R308's last sentence this states the case of two commands, not of sequences with register writes. -/
def Obligations.UnitsAreIndependent : Prop :=
  (∀ (i : Instr) (s t : State), isBcuCommand i = true → exec i s = .next t → s.SamePku t) ∧
  (∀ (i : Instr) (s t : State), isPkuCommand i = true → exec i s = .next t → s.SameBcu t) ∧
  (∀ (i : Instr) (s s' t t' : State), isBcuCommand i = true → s.SameBcu s' → exec i s = .next t → exec i s' = .next t' →
    t.SameBcu t' ∧ t.err = t'.err) ∧
  (∀ (i : Instr) (s s' t t' : State), isPkuCommand i = true → s.SamePku s' → exec i s = .next t → exec i s' = .next t' →
    t.SamePku t' ∧ t.err = t'.err) ∧
  (∀ (i j : Instr) (s t u t' u' : State), isBcuCommand i = true → isPkuCommand j = true →
    exec i s = .next t → exec j t = .next u → exec j s = .next t' → exec i t' = .next u' → { u' with err := u.err } = u)

/-! The block cipher. -/

/-- R102: gmul is the product of polynomials modulo 0x11B, with the laws the rule lists. -/
def Obligations.GmulIsTheFieldProduct : Prop :=
  ∀ a b c : Byte,
    gmul a b = polyMod (clmul a b) ∧ gmul a b = gmul b a ∧ gmul a (gmul b c) = gmul (gmul a b) c ∧
    gmul a (b ^^^ c) = gmul a b ^^^ gmul a c ∧ gmul 1#8 a = a ∧ gmul 0#8 a = 0#8

/-- R105: the two substitution tables are inverse permutations. -/
def Obligations.SubstitutionTablesAreInverse : Prop :=
  ∀ a : Byte, invSbox (sbox a) = a ∧ sbox (invSbox a) = a

/-- R104: the table agrees with its generation formula, bit by bit. -/
def Obligations.SboxIsAffineOfInverse : Prop :=
  ∀ a b : Byte, (a = 0#8 ∧ b = 0#8 ∨ gmul a b = 1#8) → ∀ i : Fin 8,
    (sbox a).getLsbD i.val =
      (b.getLsbD i.val ^^ b.getLsbD ((i.val + 4) % 8) ^^ b.getLsbD ((i.val + 5) % 8) ^^ b.getLsbD ((i.val + 6) % 8) ^^
        b.getLsbD ((i.val + 7) % 8) ^^ (0x63#8).getLsbD i.val)

/-- R107: the rotation formula and the byte permutation it amounts to. -/
def Obligations.ShiftRowsPermutesBytes : Prop :=
  ∀ s : Block,
    (∀ r c : Fin 4, (shiftRows s)[r.val + 4 * c.val] = s[r.val + 4 * ((c.val + r.val) % 4)]) ∧
    shiftRows s = #v[s[0], s[5], s[10], s[15], s[4], s[9], s[14], s[3], s[8], s[13], s[2], s[7], s[12], s[1], s[6], s[11]]

/-- R108: the rotation formula, the byte permutation it amounts to, and that it undoes shiftRows. -/
def Obligations.InvShiftRowsPermutesBytes : Prop :=
  ∀ s : Block,
    (∀ r c : Fin 4, (invShiftRows s)[r.val + 4 * c.val] = s[r.val + 4 * ((c.val + 4 - r.val) % 4)]) ∧
    invShiftRows s =
      #v[s[0], s[13], s[10], s[7], s[4], s[1], s[14], s[11], s[8], s[5], s[2], s[15], s[12], s[9], s[6], s[3]] ∧
    invShiftRows (shiftRows s) = s

/-- R109, R110: the four equations of each column, forward and inverse, and that the two are inverse. -/
def Obligations.MixColumnsEquations : Prop :=
  ∀ (s : Block) (c : Fin 4),
    ((mixColumns s)[4 * c.val] =
        gmul 2 s[4 * c.val] ^^^ gmul 3 s[4 * c.val + 1] ^^^ gmul 1 s[4 * c.val + 2] ^^^ gmul 1 s[4 * c.val + 3] ∧
      (mixColumns s)[4 * c.val + 1] =
        gmul 1 s[4 * c.val] ^^^ gmul 2 s[4 * c.val + 1] ^^^ gmul 3 s[4 * c.val + 2] ^^^ gmul 1 s[4 * c.val + 3] ∧
      (mixColumns s)[4 * c.val + 2] =
        gmul 1 s[4 * c.val] ^^^ gmul 1 s[4 * c.val + 1] ^^^ gmul 2 s[4 * c.val + 2] ^^^ gmul 3 s[4 * c.val + 3] ∧
      (mixColumns s)[4 * c.val + 3] =
        gmul 3 s[4 * c.val] ^^^ gmul 1 s[4 * c.val + 1] ^^^ gmul 1 s[4 * c.val + 2] ^^^ gmul 2 s[4 * c.val + 3]) ∧
    ((invMixColumns s)[4 * c.val] =
        gmul 14 s[4 * c.val] ^^^ gmul 11 s[4 * c.val + 1] ^^^ gmul 13 s[4 * c.val + 2] ^^^ gmul 9 s[4 * c.val + 3] ∧
      (invMixColumns s)[4 * c.val + 1] =
        gmul 9 s[4 * c.val] ^^^ gmul 14 s[4 * c.val + 1] ^^^ gmul 11 s[4 * c.val + 2] ^^^ gmul 13 s[4 * c.val + 3] ∧
      (invMixColumns s)[4 * c.val + 2] =
        gmul 13 s[4 * c.val] ^^^ gmul 9 s[4 * c.val + 1] ^^^ gmul 14 s[4 * c.val + 2] ^^^ gmul 11 s[4 * c.val + 3] ∧
      (invMixColumns s)[4 * c.val + 3] =
        gmul 11 s[4 * c.val] ^^^ gmul 13 s[4 * c.val + 1] ^^^ gmul 9 s[4 * c.val + 2] ^^^ gmul 14 s[4 * c.val + 3]) ∧
    invMixColumns (mixColumns s) = s

/-- R106, R111: the byte formulas, and that each of these transforms is undone by its inverse; with the other direction of R108
and R110. -/
def Obligations.RoundTransformsInvert : Prop :=
  ∀ (w : Schedule) (s : Block) (k : Fin 11),
    (∀ i : Fin 16, (subBytes s)[i.val] = sbox s[i.val] ∧ (invSubBytes s)[i.val] = invSbox s[i.val]) ∧
    (∀ m j : Fin 4, (addRoundKey w s k.val)[4 * m.val + j.val] = s[4 * m.val + j.val] ^^^ (w[4 * k.val + m.val])[j.val]) ∧
    invSubBytes (subBytes s) = s ∧ subBytes (invSubBytes s) = s ∧ shiftRows (invShiftRows s) = s ∧
    mixColumns (invMixColumns s) = s ∧ addRoundKey w (addRoundKey w s k.val) k.val = s

/-- R143 with R141, R142: the words of the schedule. -/
def Obligations.ScheduleRecurrence : Prop :=
  ∀ key : Block,
    (∀ i j : Fin 4, ((expandKey key)[i.val])[j.val] = key[4 * i.val + j.val]) ∧
    ∀ (i : Nat) (_h4 : 4 ≤ i) (h : i < 44) (j : Fin 4),
      ((expandKey key)[i])[j.val] =
        ((expandKey key)[i - 4])[j.val] ^^^
          (if i % 4 = 0 then
            sbox (((expandKey key)[i - 1])[(j.val + 1) % 4]'(by omega)) ^^^
              (if j.val = 0 then (rconTable[i / 4 - 1]'(by omega)) else 0#8)
          else ((expandKey key)[i - 1])[j.val])

/-- R150: decryption inverts encryption and encryption inverts decryption, under every schedule. -/
def Obligations.CipherRoundTrip : Prop :=
  ∀ (w : Schedule) (s : Block), invCipher w (cipher w s) = s ∧ cipher w (invCipher w s) = s

/-- R151: the known vector, both ways. -/
def Obligations.KnownVector : Prop :=
  let key : Block := #v[0x00, 0x01, 0x02, 0x03, 0x04, 0x05, 0x06, 0x07, 0x08, 0x09, 0x0a, 0x0b, 0x0c, 0x0d, 0x0e, 0x0f]
  let plain : Block := #v[0x00, 0x11, 0x22, 0x33, 0x44, 0x55, 0x66, 0x77, 0x88, 0x99, 0xaa, 0xbb, 0xcc, 0xdd, 0xee, 0xff]
  let ciph : Block := #v[0x69, 0xc4, 0xe0, 0xd8, 0x6a, 0x7b, 0x04, 0x30, 0xd8, 0xcd, 0xb7, 0x80, 0x70, 0xb4, 0xc5, 0x5a]
  cipher (expandKey key) plain = ciph ∧ invCipher (expandKey key) ciph = plain

/-- R112 to R118: NOP and the six ungated primitives complete from every state, and change ERR and, NOP apart, BLK only. -/
def Obligations.UngatedBlockCommandsComplete : Prop :=
  ∀ s : State,
    exec .nop s = .next { s with err := 0#4 } ∧
    exec .subbytes s = .next { s with blk := Vector.ofFn fun i => sbox s.blk[i], err := 0#4 } ∧
    exec .invsubbytes s = .next { s with blk := Vector.ofFn fun i => invSbox s.blk[i], err := 0#4 } ∧
    exec .shiftrows s = .next { s with blk := shiftRows s.blk, err := 0#4 } ∧
    exec .invshiftrows s = .next { s with blk := invShiftRows s.blk, err := 0#4 } ∧
    exec .mixcolumns s = .next { s with blk := mixColumns s.blk, err := 0#4 } ∧
    exec .invmixcolumns s = .next { s with blk := invMixColumns s.blk, err := 0#4 }

/-- R119: ADDROUNDKEY, its two errors in their order, and its effect byte by byte. -/
def Obligations.AddroundkeyCommand : Prop :=
  ∀ (s : State) (rnd : Nat),
    (rnd > 10 → exec (.addroundkey rnd) s = .next { s with err := 0x4#4 }) ∧
    (rnd ≤ 10 → s.kv = false → exec (.addroundkey rnd) s = .next { s with err := 0x3#4 }) ∧
    (rnd ≤ 10 → s.kv = true → ∃ x : Block,
      exec (.addroundkey rnd) s = .next { s with blk := x, err := 0#4 } ∧
      ∀ m j : Fin 4, x[4 * m.val + j.val] = s.blk[4 * m.val + j.val] ^^^ (schedWord s.w (4 * rnd + m.val))[j.val])

/-- R145: KEYEXP, its error and its effect. -/
def Obligations.KeyexpCommand : Prop :=
  ∀ s : State,
    exec (.keyexp 16) s = .next { s with w := expandKey s.key, kv := true, err := 0#4 } ∧
    ∀ klen : Nat, klen ≠ 16 → exec (.keyexp klen) s = .next { s with err := 0x2#4 }

/-- R147, R149: ENCBLK and DECBLK, their gate and their effect. -/
def Obligations.BlockCommands : Prop :=
  ∀ s : State,
    (s.kv = true → exec .encblk s = .next { s with blk := cipher s.w s.blk, err := 0#4 } ∧
      exec .decblk s = .next { s with blk := invCipher s.w s.blk, err := 0#4 }) ∧
    (s.kv = false → exec .encblk s = .next { s with err := 0x3#4 } ∧ exec .decblk s = .next { s with err := 0x3#4 })

/-- R149, R150: ENCBLK then DECBLK restores BLK, and DECBLK then ENCBLK does. -/
def Obligations.DecblkUndoesEncblk : Prop :=
  ∀ s : State, s.kv = true →
    (∃ t, exec .encblk s = .next t ∧ exec .decblk t = .next { s with err := 0#4 }) ∧
    (∃ t, exec .decblk s = .next t ∧ exec .encblk t = .next { s with err := 0#4 })

/-- R91: the cipher stepped round by round, as forty commands of the host, ends where ENCBLK ends, and its inverse where
DECBLK ends. That the commands run as steps of a list is the model's choice (log entry 1). -/
def Obligations.RoundSteppingEqualsBlockCommands : Prop :=
  ∀ s : State, s.kv = true → s.pending = [] →
    Host.Core.run core 40 (s.withProgram encryptByRounds) = exec .encblk s ∧
    Host.Core.run core 40 (s.withProgram decryptByRounds) = exec .decblk s

/-! The public-key unit. -/

/-- R171, R173: the trial division decides primality, and PRIMETEST writes 1 or 0 for it. -/
def Obligations.PrimetestDecidesPrimality : Prop :=
  (∀ n : Nat, isPrime n = true ↔ Nat.Prime n) ∧
  ∀ s : State,
    (Nat.Prime s.ra.toNat → exec .primetest s = .next { s with rr := 1#32, err := 0#4 }) ∧
    (¬ Nat.Prime s.ra.toNat → exec .primetest s = .next { s with rr := 0#32, err := 0#4 })

/-- R174, R175: Euclid's loop is the greatest common divisor, and GCD writes it. -/
def Obligations.GcdCommandComputesGcd : Prop :=
  (∀ a b : Nat, gcdOf a b = Nat.gcd a b) ∧
  ∀ s : State, ∃ r : Word32,
    exec .gcd s = .next { s with rr := r, err := 0#4 } ∧ r.toNat = Nat.gcd s.ra.toNat s.rb.toNat

/-- R176: modinv gives the one inverse in [1, m - 1]. -/
def Obligations.ModinvIsTheUniqueInverse : Prop :=
  ∀ a m : Nat, 2 ≤ m → Nat.gcd (a % m) m = 1 →
    (1 ≤ modinvOf a m ∧ modinvOf a m ≤ m - 1 ∧ a * modinvOf a m % m = 1) ∧
    ∀ x : Nat, 1 ≤ x → x ≤ m - 1 → a * x % m = 1 → x = modinvOf a m

/-- R177: MODINV, its errors in their order and its result. -/
def Obligations.ModinvCommand : Prop :=
  ∀ s : State,
    (s.rm.toNat < 2 → exec .modinv s = .next { s with err := 0x5#4 }) ∧
    (2 ≤ s.rm.toNat → Nat.gcd (s.ra.toNat % s.rm.toNat) s.rm.toNat ≠ 1 → exec .modinv s = .next { s with err := 0x6#4 }) ∧
    (2 ≤ s.rm.toNat → Nat.gcd (s.ra.toNat % s.rm.toNat) s.rm.toNat = 1 → ∃ r : Word32,
      exec .modinv s = .next { s with rr := r, err := 0#4 } ∧
      1 ≤ r.toNat ∧ r.toNat < s.rm.toNat ∧ s.ra.toNat * r.toNat % s.rm.toNat = 1)

/-- R201: the square-and-multiply loop computes the power, reduced. -/
def Obligations.ModexpIsThePower : Prop :=
  ∀ b x m : Nat, 2 ≤ m → modexpOf b x m = b ^ x % m ∧ modexpOf b x m < m

/-- R202, R203: MODMUL and MODEXP, their error and their exact results. -/
def Obligations.ModularCommands : Prop :=
  ∀ s : State,
    (s.rm.toNat < 2 → exec .modmul s = .next { s with err := 0x5#4 } ∧ exec .modexp s = .next { s with err := 0x5#4 }) ∧
    (2 ≤ s.rm.toNat →
      (∃ r : Word32, exec .modmul s = .next { s with rr := r, err := 0#4 } ∧
        r.toNat = s.ra.toNat * s.rb.toNat % s.rm.toNat) ∧
      (∃ r : Word32, exec .modexp s = .next { s with rr := r, err := 0#4 } ∧
        r.toNat = s.ra.toNat ^ s.rb.toNat % s.rm.toNat))

/-- R178: e is the least exponent from 3 on that is coprime with r. -/
def Obligations.ChooseEIsLeastCoprime : Prop :=
  ∀ r : Nat, 4 ≤ r →
    3 ≤ chooseE r ∧ chooseE r ≤ r - 1 ∧ Nat.gcd (chooseE r) r = 1 ∧
    (∀ e : Nat, 3 ≤ e → e < chooseE r → Nat.gcd e r ≠ 1) ∧ (r % 2 = 0 → chooseE r % 2 = 1)

/-- R179: the derived key, its bounds and its invariant. -/
def Obligations.DeriveKeyMeetsInvariant : Prop :=
  ∀ p q : Nat, LegalPrime p → LegalPrime q →
    (deriveKey p q).n = p * q ∧ (deriveKey p q).r = (p - 1) * (q - 1) ∧
    (deriveKey p q).e = chooseE ((p - 1) * (q - 1)) ∧ (deriveKey p q).d = modinvOf (deriveKey p q).e (deriveKey p q).r ∧
    (deriveKey p q).n ≤ 4294836225 ∧ (deriveKey p q).r < (deriveKey p q).n ∧ (deriveKey p q).e < (deriveKey p q).r ∧
    (deriveKey p q).d < (deriveKey p q).r ∧ (deriveKey p q).e * (deriveKey p q).d % (deriveKey p q).r = 1 ∧
    Nat.gcd (deriveKey p q).e (deriveKey p q).r = 1

/-- R182: KEYLOAD, its error and its effect. -/
def Obligations.KeyloadCommand : Prop :=
  ∀ s : State,
    (LegalPrime s.ra.toNat ∧ LegalPrime s.rb.toNat → ∃ n t e d : Word32,
      exec .keyload s =
        .next { s with p := s.ra, q := s.rb, n := n, t := t, e := e, d := d, pkv := true, err := 0#4 } ∧
      n.toNat = s.ra.toNat * s.rb.toNat ∧ t.toNat = (s.ra.toNat - 1) * (s.rb.toNat - 1) ∧
      e.toNat = chooseE t.toNat ∧ d.toNat = modinvOf e.toNat t.toNat) ∧
    (¬ (LegalPrime s.ra.toNat ∧ LegalPrime s.rb.toNat) → exec .keyload s = .next { s with err := 0x7#4 })

/-- R181: KEYGEN fails exactly where no prime lies in the range, and else loads the key of two primes of the range; a range
with one prime fixes both. The position of the entropy source is the model's (log entry 3). -/
def Obligations.KeygenCommand : Prop :=
  ∀ s : State,
    ((¬ ∃ x, s.plo.toNat ≤ x ∧ x ≤ s.phi.toNat ∧ Nat.Prime x) → exec .keygen s = .next { s with err := 0x7#4 }) ∧
    ((∃ x, s.plo.toNat ≤ x ∧ x ≤ s.phi.toNat ∧ Nat.Prime x) → s.RangeLegal → ∃ p q n t e d : Word32,
      exec .keygen s =
        .next { s with p := p, q := q, n := n, t := t, e := e, d := d, pkv := true, err := 0#4, draws := s.draws + 2 } ∧
      (s.plo.toNat ≤ p.toNat ∧ p.toNat ≤ s.phi.toNat ∧ Nat.Prime p.toNat) ∧
      (s.plo.toNat ≤ q.toNat ∧ q.toNat ≤ s.phi.toNat ∧ Nat.Prime q.toNat) ∧
      n.toNat = p.toNat * q.toNat ∧ t.toNat = (p.toNat - 1) * (q.toNat - 1) ∧
      e.toNat = chooseE t.toNat ∧ d.toNat = modinvOf e.toNat t.toNat)

/-- R205, R206: ENCINT and DECINT, their gate and their results. The premise on N is part of the machine's invariant. -/
def Obligations.KeyMaterialCommands : Prop :=
  ∀ s : State,
    (s.pkv = false → exec .encint s = .next { s with err := 0x8#4 } ∧ exec .decint s = .next { s with err := 0x8#4 }) ∧
    (s.pkv = true → 2 ≤ s.n.toNat →
      (∃ r : Word32, exec .encint s = .next { s with rr := r, err := 0#4 } ∧
        r.toNat = s.ra.toNat ^ s.e.toNat % s.n.toNat) ∧
      (∃ r : Word32, exec .decint s = .next { s with rr := r, err := 0#4 } ∧
        r.toNat = s.ra.toNat ^ s.d.toNat % s.n.toNat))

/-- R207: DECBYTE, its gate, its range check and its result. -/
def Obligations.DecbyteCommand : Prop :=
  ∀ s : State,
    (s.pkv = false → exec .decbyte s = .next { s with err := 0x8#4 }) ∧
    (s.pkv = true → 2 ≤ s.n.toNat → s.ra.toNat ^ s.d.toNat % s.n.toNat > 255 →
      exec .decbyte s = .next { s with err := 0x9#4 }) ∧
    (s.pkv = true → 2 ≤ s.n.toNat → s.ra.toNat ^ s.d.toNat % s.n.toNat ≤ 255 → ∃ r : Word32,
      exec .decbyte s = .next { s with rr := r, err := 0#4 } ∧ r.toNat = s.ra.toNat ^ s.d.toNat % s.n.toNat)

/-- R208: with valid key material and P ≠ Q, DECINT of the result of ENCINT gives the number back, and so does DECBYTE for a
byte. -/
def Obligations.RsaRoundTrip : Prop :=
  ∀ s : State, s.pkv = true → s.KeyMaterialValid → s.p ≠ s.q → s.ra.toNat < s.n.toNat →
    ∃ t, exec .encint s = .next t ∧
      exec .decint { t with ra := t.rr } = .next { s with ra := t.rr, rr := s.ra, err := 0#4 } ∧
      (s.ra.toNat ≤ 255 → exec .decbyte { t with ra := t.rr } = .next { s with ra := t.rr, rr := s.ra, err := 0#4 })

/-! The host driver. -/

/-- R232, R234: pad makes a positive multiple of 16 bytes by 1 to 16 bytes that say how many they are, and unpad takes them
off. -/
def Obligations.UnpadUndoesPad : Prop :=
  ∀ x : List Byte, ∃ n : Nat, n = 16 - x.length % 16 ∧ 1 ≤ n ∧ n ≤ 16 ∧
    padMessage x = x ++ List.replicate n (BitVec.ofNat 8 n) ∧ (padMessage x).length = x.length + n ∧
    (padMessage x).length % 16 = 0 ∧ 16 ≤ (padMessage x).length ∧ unpadMessage (padMessage x) = .ok x

/-- R234: the last byte is trusted as the number of bytes to remove, and a larger one than the length is the driver's fault. -/
def Obligations.UnpadTrustsLastByte : Prop :=
  ∀ (x : List Byte) (pl : Byte),
    (pl.toNat > x.length + 1 → unpadMessage (x ++ [pl]) = .error .hostUnpadOverrun) ∧
    (pl.toNat ≤ x.length + 1 → unpadMessage (x ++ [pl]) = .ok ((x ++ [pl]).take (x.length + 1 - pl.toNat)))

/-- R231: the construct writes KEY whatever the key's length is, expands a 16-byte key, and else reports InvalidKeyLength with
KV cleared. -/
def Obligations.BlockCipherConstructChecksLength : Prop :=
  ∀ (k : List Byte) (s : State),
    (k.length = 16 → blockCipherConstruct k s =
      .ok { s with key := blockAt k 0, w := expandKey (blockAt k 0), kv := true, err := 0#4 } ()) ∧
    (k.length ≠ 16 → blockCipherConstruct k s =
      .error { s with key := blockAt k 0, kv := false, err := 0x2#4 } .invalidKeyLength)

/-- R233, R240: EncryptMessage gives the blocks of the padded message, each encrypted on its own. -/
def Obligations.EncryptMessageIsEcb : Prop :=
  ∀ (x : List Byte) (s : State), s.kv = true → ∃ t, encryptMessage x s = .ok t
    ((List.range ((padMessage x).length / 16)).flatMap fun i => (cipher s.w (blockAt (padMessage x) i)).toList)

/-- R235: a length that is no positive multiple of 16 is InvalidCiphertextLength, and the core is not touched. -/
def Obligations.DecryptMessageChecksLength : Prop :=
  ∀ (c : List Byte) (s : State), c = [] ∨ c.length % 16 ≠ 0 → decryptMessage c s = .error s .invalidCiphertextLength

/-- R241: decryptMessage(encryptMessage(s)) = s under one schedule; the ciphertext has the padded length, 32 bytes for 16. -/
def Obligations.MessageRoundTrip : Prop :=
  ∀ (x : List Byte) (s : State), s.kv = true →
    ∃ t c u, encryptMessage x s = .ok t c ∧ c.length = x.length + (16 - x.length % 16) ∧ decryptMessage c t = .ok u x

/-- R242: decryptString(encryptString(s)) = s where P ≠ Q and N > 255. -/
def Obligations.StringRoundTrip : Prop :=
  ∀ (x : List Byte) (s : State), s.pkv = true → s.KeyMaterialValid → s.p ≠ s.q → 255 < s.n.toNat →
    ∃ t cs u, encryptString x s = .ok t cs ∧ cs.length = x.length ∧ (∀ c ∈ cs, c.toNat < s.n.toNat) ∧
      decryptString (cs.map BitVec.toNat) t = .ok u x

/-- R236: where the range holds a prime, the construct reports the key material the core then holds, and it is valid. -/
def Obligations.PublicKeyConstructReportsValidKey : Prop :=
  ∀ s : State, s.RangeLegal → (∃ x, s.plo.toNat ≤ x ∧ x ≤ s.phi.toNat ∧ Nat.Prime x) →
    ∃ t, publicKeyConstruct s = .ok t ⟨t.p, t.q, t.n, t.t, t.e, t.d⟩ ∧ t.pkv = true ∧ t.KeyMaterialValid
end

