-- ==== Sys2Proof/Laws/Arith.lean ====
section
/-! SUPPORT. KEYGEN's candidates and draws, and residues. -/

namespace Sys2Proof.Machine

/-- The candidate set of KEYGEN is the primes of the range (R180). -/
theorem mem_primesIn (lo hi x : Nat) : x ∈ primesIn lo hi ↔ lo ≤ x ∧ x ≤ hi ∧ isPrime x = true := by
  simp only [primesIn, List.mem_filter, List.mem_range'_1]
  constructor
  · rintro ⟨⟨h1, h2⟩, h3⟩; exact ⟨h1, by omega, h3⟩
  · rintro ⟨h1, h2, h3⟩; exact ⟨⟨h1, by omega⟩, h3⟩

/-- A draw from a set that is not empty gives an element of it (R181). -/
theorem draw_mem (pr : List Nat) (k : Nat) (h : pr ≠ []) : draw pr k ∈ pr := by
  have hlt : Config.entropy k % pr.length < pr.length := Nat.mod_lt _ (List.length_pos_iff.mpr h)
  simp [draw, List.getD_eq_getElem?_getD, List.getElem?_eq_getElem hlt]

/-- Modulo b ≥ 1 the residue is R8's `a mod b`. -/
theorem residueOf_pos (a b : Nat) (h : 0 < b) : residueOf a b = a % b := if_neg (Nat.ne_of_gt h)

/-- Modulo b ≥ 1 the residue lies in [0, b - 1] (R8). -/
theorem residueOf_lt (a b : Nat) (h : 0 < b) : residueOf a b < b := residueOf_pos a b h ▸ Nat.mod_lt a h

end Sys2Proof.Machine
end

