-- ==== Sys2Proof/Laws/Cipher.lean ====
section
/-! SUPPORT. The bytes of each block transform, and the membership laws of the loops' ranges. -/

namespace Sys2Proof.Machine

variable (s : Block) (w : Schedule) (i : Nat) (hi : i < 16)

@[simp] theorem getElem_subBytes : (subBytes s)[i] = sbox s[i] := by simp [subBytes]

@[simp] theorem getElem_invSubBytes : (invSubBytes s)[i] = invSbox s[i] := by simp [invSubBytes]

@[simp] theorem getElem_shiftRows : (shiftRows s)[i] = s[i % 4 + 4 * ((i / 4 + i % 4) % 4)]'(by omega) := by
  simp [shiftRows]

@[simp] theorem getElem_invShiftRows :
    (invShiftRows s)[i] = s[i % 4 + 4 * ((i / 4 + (4 - i % 4)) % 4)]'(by omega) := by
  simp [invShiftRows]

@[simp] theorem getElem_addRoundKey (k : Nat) :
    (addRoundKey w s k)[i] = s[i] ^^^ (schedWord w (4 * k + i / 4))[i % 4]'(by omega) := by
  simp [addRoundKey]

theorem schedWord_of_lt (j : Nat) (h : j < 44) : schedWord w j = w[j] := by simp [schedWord, h]

end Sys2Proof.Machine
end

