-- ==== Sys2Proof/Laws/State.lean ====
section
/-! SUPPORT. The fields of the state after each named update: one lemma per field per update, so that no later proof unfolds a
record update. -/

namespace Sys2Proof.Machine

variable (s : State)

section setErr
variable (c : BitVec 4)

@[simp] theorem State.setErr_kv : (s.setErr c).kv = s.kv := rfl
@[simp] theorem State.setErr_pkv : (s.setErr c).pkv = s.pkv := rfl
@[simp] theorem State.setErr_err : (s.setErr c).err = c := rfl
@[simp] theorem State.setErr_key : (s.setErr c).key = s.key := rfl
@[simp] theorem State.setErr_blk : (s.setErr c).blk = s.blk := rfl
@[simp] theorem State.setErr_w : (s.setErr c).w = s.w := rfl
@[simp] theorem State.setErr_ra : (s.setErr c).ra = s.ra := rfl
@[simp] theorem State.setErr_rb : (s.setErr c).rb = s.rb := rfl
@[simp] theorem State.setErr_rm : (s.setErr c).rm = s.rm := rfl
@[simp] theorem State.setErr_rr : (s.setErr c).rr = s.rr := rfl
@[simp] theorem State.setErr_plo : (s.setErr c).plo = s.plo := rfl
@[simp] theorem State.setErr_phi : (s.setErr c).phi = s.phi := rfl
@[simp] theorem State.setErr_p : (s.setErr c).p = s.p := rfl
@[simp] theorem State.setErr_q : (s.setErr c).q = s.q := rfl
@[simp] theorem State.setErr_n : (s.setErr c).n = s.n := rfl
@[simp] theorem State.setErr_t : (s.setErr c).t = s.t := rfl
@[simp] theorem State.setErr_e : (s.setErr c).e = s.e := rfl
@[simp] theorem State.setErr_d : (s.setErr c).d = s.d := rfl
@[simp] theorem State.setErr_pending : (s.setErr c).pending = s.pending := rfl
@[simp] theorem State.setErr_reads : (s.setErr c).reads = s.reads := rfl
@[simp] theorem State.setErr_draws : (s.setErr c).draws = s.draws := rfl
@[simp] theorem State.setErr_resets : (s.setErr c).resets = s.resets := rfl

end setErr

section setKv
variable (v : Bool)

@[simp] theorem State.setKv_kv : (s.setKv v).kv = v := rfl
@[simp] theorem State.setKv_pkv : (s.setKv v).pkv = s.pkv := rfl
@[simp] theorem State.setKv_err : (s.setKv v).err = s.err := rfl
@[simp] theorem State.setKv_key : (s.setKv v).key = s.key := rfl
@[simp] theorem State.setKv_blk : (s.setKv v).blk = s.blk := rfl
@[simp] theorem State.setKv_w : (s.setKv v).w = s.w := rfl
@[simp] theorem State.setKv_ra : (s.setKv v).ra = s.ra := rfl
@[simp] theorem State.setKv_rb : (s.setKv v).rb = s.rb := rfl
@[simp] theorem State.setKv_rm : (s.setKv v).rm = s.rm := rfl
@[simp] theorem State.setKv_rr : (s.setKv v).rr = s.rr := rfl
@[simp] theorem State.setKv_plo : (s.setKv v).plo = s.plo := rfl
@[simp] theorem State.setKv_phi : (s.setKv v).phi = s.phi := rfl
@[simp] theorem State.setKv_p : (s.setKv v).p = s.p := rfl
@[simp] theorem State.setKv_q : (s.setKv v).q = s.q := rfl
@[simp] theorem State.setKv_n : (s.setKv v).n = s.n := rfl
@[simp] theorem State.setKv_t : (s.setKv v).t = s.t := rfl
@[simp] theorem State.setKv_e : (s.setKv v).e = s.e := rfl
@[simp] theorem State.setKv_d : (s.setKv v).d = s.d := rfl
@[simp] theorem State.setKv_pending : (s.setKv v).pending = s.pending := rfl
@[simp] theorem State.setKv_reads : (s.setKv v).reads = s.reads := rfl
@[simp] theorem State.setKv_draws : (s.setKv v).draws = s.draws := rfl
@[simp] theorem State.setKv_resets : (s.setKv v).resets = s.resets := rfl

end setKv

section setResult
variable (v : Nat)

@[simp] theorem State.setResult_kv : (s.setResult v).kv = s.kv := rfl
@[simp] theorem State.setResult_pkv : (s.setResult v).pkv = s.pkv := rfl
@[simp] theorem State.setResult_err : (s.setResult v).err = s.err := rfl
@[simp] theorem State.setResult_key : (s.setResult v).key = s.key := rfl
@[simp] theorem State.setResult_blk : (s.setResult v).blk = s.blk := rfl
@[simp] theorem State.setResult_w : (s.setResult v).w = s.w := rfl
@[simp] theorem State.setResult_ra : (s.setResult v).ra = s.ra := rfl
@[simp] theorem State.setResult_rb : (s.setResult v).rb = s.rb := rfl
@[simp] theorem State.setResult_rm : (s.setResult v).rm = s.rm := rfl
@[simp] theorem State.setResult_rr : (s.setResult v).rr = BitVec.ofNat 32 v := rfl
@[simp] theorem State.setResult_plo : (s.setResult v).plo = s.plo := rfl
@[simp] theorem State.setResult_phi : (s.setResult v).phi = s.phi := rfl
@[simp] theorem State.setResult_p : (s.setResult v).p = s.p := rfl
@[simp] theorem State.setResult_q : (s.setResult v).q = s.q := rfl
@[simp] theorem State.setResult_n : (s.setResult v).n = s.n := rfl
@[simp] theorem State.setResult_t : (s.setResult v).t = s.t := rfl
@[simp] theorem State.setResult_e : (s.setResult v).e = s.e := rfl
@[simp] theorem State.setResult_d : (s.setResult v).d = s.d := rfl
@[simp] theorem State.setResult_pending : (s.setResult v).pending = s.pending := rfl
@[simp] theorem State.setResult_reads : (s.setResult v).reads = s.reads := rfl
@[simp] theorem State.setResult_draws : (s.setResult v).draws = s.draws := rfl
@[simp] theorem State.setResult_resets : (s.setResult v).resets = s.resets := rfl

end setResult

section setBlk
variable (x : Block)

@[simp] theorem State.setBlk_kv : (s.setBlk x).kv = s.kv := rfl
@[simp] theorem State.setBlk_pkv : (s.setBlk x).pkv = s.pkv := rfl
@[simp] theorem State.setBlk_err : (s.setBlk x).err = s.err := rfl
@[simp] theorem State.setBlk_key : (s.setBlk x).key = s.key := rfl
@[simp] theorem State.setBlk_blk : (s.setBlk x).blk = x := rfl
@[simp] theorem State.setBlk_w : (s.setBlk x).w = s.w := rfl
@[simp] theorem State.setBlk_ra : (s.setBlk x).ra = s.ra := rfl
@[simp] theorem State.setBlk_rb : (s.setBlk x).rb = s.rb := rfl
@[simp] theorem State.setBlk_rm : (s.setBlk x).rm = s.rm := rfl
@[simp] theorem State.setBlk_rr : (s.setBlk x).rr = s.rr := rfl
@[simp] theorem State.setBlk_plo : (s.setBlk x).plo = s.plo := rfl
@[simp] theorem State.setBlk_phi : (s.setBlk x).phi = s.phi := rfl
@[simp] theorem State.setBlk_p : (s.setBlk x).p = s.p := rfl
@[simp] theorem State.setBlk_q : (s.setBlk x).q = s.q := rfl
@[simp] theorem State.setBlk_n : (s.setBlk x).n = s.n := rfl
@[simp] theorem State.setBlk_t : (s.setBlk x).t = s.t := rfl
@[simp] theorem State.setBlk_e : (s.setBlk x).e = s.e := rfl
@[simp] theorem State.setBlk_d : (s.setBlk x).d = s.d := rfl
@[simp] theorem State.setBlk_pending : (s.setBlk x).pending = s.pending := rfl
@[simp] theorem State.setBlk_reads : (s.setBlk x).reads = s.reads := rfl
@[simp] theorem State.setBlk_draws : (s.setBlk x).draws = s.draws := rfl
@[simp] theorem State.setBlk_resets : (s.setBlk x).resets = s.resets := rfl

end setBlk

section setSchedule
variable (x : Schedule)

@[simp] theorem State.setSchedule_kv : (s.setSchedule x).kv = true := rfl
@[simp] theorem State.setSchedule_pkv : (s.setSchedule x).pkv = s.pkv := rfl
@[simp] theorem State.setSchedule_err : (s.setSchedule x).err = s.err := rfl
@[simp] theorem State.setSchedule_key : (s.setSchedule x).key = s.key := rfl
@[simp] theorem State.setSchedule_blk : (s.setSchedule x).blk = s.blk := rfl
@[simp] theorem State.setSchedule_w : (s.setSchedule x).w = x := rfl
@[simp] theorem State.setSchedule_ra : (s.setSchedule x).ra = s.ra := rfl
@[simp] theorem State.setSchedule_rb : (s.setSchedule x).rb = s.rb := rfl
@[simp] theorem State.setSchedule_rm : (s.setSchedule x).rm = s.rm := rfl
@[simp] theorem State.setSchedule_rr : (s.setSchedule x).rr = s.rr := rfl
@[simp] theorem State.setSchedule_plo : (s.setSchedule x).plo = s.plo := rfl
@[simp] theorem State.setSchedule_phi : (s.setSchedule x).phi = s.phi := rfl
@[simp] theorem State.setSchedule_p : (s.setSchedule x).p = s.p := rfl
@[simp] theorem State.setSchedule_q : (s.setSchedule x).q = s.q := rfl
@[simp] theorem State.setSchedule_n : (s.setSchedule x).n = s.n := rfl
@[simp] theorem State.setSchedule_t : (s.setSchedule x).t = s.t := rfl
@[simp] theorem State.setSchedule_e : (s.setSchedule x).e = s.e := rfl
@[simp] theorem State.setSchedule_d : (s.setSchedule x).d = s.d := rfl
@[simp] theorem State.setSchedule_pending : (s.setSchedule x).pending = s.pending := rfl
@[simp] theorem State.setSchedule_reads : (s.setSchedule x).reads = s.reads := rfl
@[simp] theorem State.setSchedule_draws : (s.setSchedule x).draws = s.draws := rfl
@[simp] theorem State.setSchedule_resets : (s.setSchedule x).resets = s.resets := rfl

end setSchedule

section setKeyMaterial
variable (a b : Nat) (k : KeyPair)

@[simp] theorem State.setKeyMaterial_kv : (s.setKeyMaterial a b k).kv = s.kv := rfl
@[simp] theorem State.setKeyMaterial_pkv : (s.setKeyMaterial a b k).pkv = true := rfl
@[simp] theorem State.setKeyMaterial_err : (s.setKeyMaterial a b k).err = s.err := rfl
@[simp] theorem State.setKeyMaterial_key : (s.setKeyMaterial a b k).key = s.key := rfl
@[simp] theorem State.setKeyMaterial_blk : (s.setKeyMaterial a b k).blk = s.blk := rfl
@[simp] theorem State.setKeyMaterial_w : (s.setKeyMaterial a b k).w = s.w := rfl
@[simp] theorem State.setKeyMaterial_ra : (s.setKeyMaterial a b k).ra = s.ra := rfl
@[simp] theorem State.setKeyMaterial_rb : (s.setKeyMaterial a b k).rb = s.rb := rfl
@[simp] theorem State.setKeyMaterial_rm : (s.setKeyMaterial a b k).rm = s.rm := rfl
@[simp] theorem State.setKeyMaterial_rr : (s.setKeyMaterial a b k).rr = s.rr := rfl
@[simp] theorem State.setKeyMaterial_plo : (s.setKeyMaterial a b k).plo = s.plo := rfl
@[simp] theorem State.setKeyMaterial_phi : (s.setKeyMaterial a b k).phi = s.phi := rfl
@[simp] theorem State.setKeyMaterial_p : (s.setKeyMaterial a b k).p = BitVec.ofNat 32 a := rfl
@[simp] theorem State.setKeyMaterial_q : (s.setKeyMaterial a b k).q = BitVec.ofNat 32 b := rfl
@[simp] theorem State.setKeyMaterial_n : (s.setKeyMaterial a b k).n = BitVec.ofNat 32 k.n := rfl
@[simp] theorem State.setKeyMaterial_t : (s.setKeyMaterial a b k).t = BitVec.ofNat 32 k.r := rfl
@[simp] theorem State.setKeyMaterial_e : (s.setKeyMaterial a b k).e = BitVec.ofNat 32 k.e := rfl
@[simp] theorem State.setKeyMaterial_d : (s.setKeyMaterial a b k).d = BitVec.ofNat 32 k.d := rfl
@[simp] theorem State.setKeyMaterial_pending : (s.setKeyMaterial a b k).pending = s.pending := rfl
@[simp] theorem State.setKeyMaterial_reads : (s.setKeyMaterial a b k).reads = s.reads := rfl
@[simp] theorem State.setKeyMaterial_draws : (s.setKeyMaterial a b k).draws = s.draws := rfl
@[simp] theorem State.setKeyMaterial_resets : (s.setKeyMaterial a b k).resets = s.resets := rfl

end setKeyMaterial

section advanceDraws
variable (k : Nat)

@[simp] theorem State.advanceDraws_kv : (s.advanceDraws k).kv = s.kv := rfl
@[simp] theorem State.advanceDraws_pkv : (s.advanceDraws k).pkv = s.pkv := rfl
@[simp] theorem State.advanceDraws_err : (s.advanceDraws k).err = s.err := rfl
@[simp] theorem State.advanceDraws_key : (s.advanceDraws k).key = s.key := rfl
@[simp] theorem State.advanceDraws_blk : (s.advanceDraws k).blk = s.blk := rfl
@[simp] theorem State.advanceDraws_w : (s.advanceDraws k).w = s.w := rfl
@[simp] theorem State.advanceDraws_ra : (s.advanceDraws k).ra = s.ra := rfl
@[simp] theorem State.advanceDraws_rb : (s.advanceDraws k).rb = s.rb := rfl
@[simp] theorem State.advanceDraws_rm : (s.advanceDraws k).rm = s.rm := rfl
@[simp] theorem State.advanceDraws_rr : (s.advanceDraws k).rr = s.rr := rfl
@[simp] theorem State.advanceDraws_plo : (s.advanceDraws k).plo = s.plo := rfl
@[simp] theorem State.advanceDraws_phi : (s.advanceDraws k).phi = s.phi := rfl
@[simp] theorem State.advanceDraws_p : (s.advanceDraws k).p = s.p := rfl
@[simp] theorem State.advanceDraws_q : (s.advanceDraws k).q = s.q := rfl
@[simp] theorem State.advanceDraws_n : (s.advanceDraws k).n = s.n := rfl
@[simp] theorem State.advanceDraws_t : (s.advanceDraws k).t = s.t := rfl
@[simp] theorem State.advanceDraws_e : (s.advanceDraws k).e = s.e := rfl
@[simp] theorem State.advanceDraws_d : (s.advanceDraws k).d = s.d := rfl
@[simp] theorem State.advanceDraws_pending : (s.advanceDraws k).pending = s.pending := rfl
@[simp] theorem State.advanceDraws_reads : (s.advanceDraws k).reads = s.reads := rfl
@[simp] theorem State.advanceDraws_draws : (s.advanceDraws k).draws = s.draws + k := rfl
@[simp] theorem State.advanceDraws_resets : (s.advanceDraws k).resets = s.resets := rfl

end advanceDraws

section withPending
variable (l : List HostEvent)

@[simp] theorem State.withPending_kv : (s.withPending l).kv = s.kv := rfl
@[simp] theorem State.withPending_pkv : (s.withPending l).pkv = s.pkv := rfl
@[simp] theorem State.withPending_err : (s.withPending l).err = s.err := rfl
@[simp] theorem State.withPending_key : (s.withPending l).key = s.key := rfl
@[simp] theorem State.withPending_blk : (s.withPending l).blk = s.blk := rfl
@[simp] theorem State.withPending_w : (s.withPending l).w = s.w := rfl
@[simp] theorem State.withPending_ra : (s.withPending l).ra = s.ra := rfl
@[simp] theorem State.withPending_rb : (s.withPending l).rb = s.rb := rfl
@[simp] theorem State.withPending_rm : (s.withPending l).rm = s.rm := rfl
@[simp] theorem State.withPending_rr : (s.withPending l).rr = s.rr := rfl
@[simp] theorem State.withPending_plo : (s.withPending l).plo = s.plo := rfl
@[simp] theorem State.withPending_phi : (s.withPending l).phi = s.phi := rfl
@[simp] theorem State.withPending_p : (s.withPending l).p = s.p := rfl
@[simp] theorem State.withPending_q : (s.withPending l).q = s.q := rfl
@[simp] theorem State.withPending_n : (s.withPending l).n = s.n := rfl
@[simp] theorem State.withPending_t : (s.withPending l).t = s.t := rfl
@[simp] theorem State.withPending_e : (s.withPending l).e = s.e := rfl
@[simp] theorem State.withPending_d : (s.withPending l).d = s.d := rfl
@[simp] theorem State.withPending_pending : (s.withPending l).pending = l := rfl
@[simp] theorem State.withPending_reads : (s.withPending l).reads = s.reads := rfl
@[simp] theorem State.withPending_draws : (s.withPending l).draws = s.draws := rfl
@[simp] theorem State.withPending_resets : (s.withPending l).resets = s.resets := rfl

end withPending

section pushRead
variable (v : Word32)

@[simp] theorem State.pushRead_kv : (s.pushRead v).kv = s.kv := rfl
@[simp] theorem State.pushRead_pkv : (s.pushRead v).pkv = s.pkv := rfl
@[simp] theorem State.pushRead_err : (s.pushRead v).err = s.err := rfl
@[simp] theorem State.pushRead_key : (s.pushRead v).key = s.key := rfl
@[simp] theorem State.pushRead_blk : (s.pushRead v).blk = s.blk := rfl
@[simp] theorem State.pushRead_w : (s.pushRead v).w = s.w := rfl
@[simp] theorem State.pushRead_ra : (s.pushRead v).ra = s.ra := rfl
@[simp] theorem State.pushRead_rb : (s.pushRead v).rb = s.rb := rfl
@[simp] theorem State.pushRead_rm : (s.pushRead v).rm = s.rm := rfl
@[simp] theorem State.pushRead_rr : (s.pushRead v).rr = s.rr := rfl
@[simp] theorem State.pushRead_plo : (s.pushRead v).plo = s.plo := rfl
@[simp] theorem State.pushRead_phi : (s.pushRead v).phi = s.phi := rfl
@[simp] theorem State.pushRead_p : (s.pushRead v).p = s.p := rfl
@[simp] theorem State.pushRead_q : (s.pushRead v).q = s.q := rfl
@[simp] theorem State.pushRead_n : (s.pushRead v).n = s.n := rfl
@[simp] theorem State.pushRead_t : (s.pushRead v).t = s.t := rfl
@[simp] theorem State.pushRead_e : (s.pushRead v).e = s.e := rfl
@[simp] theorem State.pushRead_d : (s.pushRead v).d = s.d := rfl
@[simp] theorem State.pushRead_pending : (s.pushRead v).pending = s.pending := rfl
@[simp] theorem State.pushRead_reads : (s.pushRead v).reads = v :: s.reads := rfl
@[simp] theorem State.pushRead_draws : (s.pushRead v).draws = s.draws := rfl
@[simp] theorem State.pushRead_resets : (s.pushRead v).resets = s.resets := rfl

end pushRead

/-! Two updates of one register, and of ERR after another update. -/

@[simp] theorem State.setErr_setErr (c c' : BitVec 4) : (s.setErr c).setErr c' = s.setErr c' := rfl

@[simp] theorem State.setBlk_setBlk (x y : Block) : (s.setBlk x).setBlk y = s.setBlk y := rfl

@[simp] theorem State.withPending_withPending (l l' : List HostEvent) :
    (s.withPending l).withPending l' = s.withPending l' := rfl

theorem State.setErr_setBlk (c : BitVec 4) (x : Block) : (s.setErr c).setBlk x = (s.setBlk x).setErr c := rfl

theorem State.setErr_setResult (c : BitVec 4) (v : Nat) : (s.setErr c).setResult v = (s.setResult v).setErr c := rfl

@[simp] theorem State.setBlk_self : s.setBlk s.blk = s := rfl

@[simp] theorem State.setErr_self : s.setErr s.err = s := rfl

end Sys2Proof.Machine
end

