-- ==== Sys2Proof/Laws/Ops.lean ====
section
/-! SUPPORT. What each shared operation can do: completing a command, the byte lanes, the register map, register reads and
writes, one access, one event. Proofs cite these and do not unfold the operations. -/

namespace Sys2Proof.Machine

/-! Completing a command. -/

@[simp] theorem State.raise_eq (s : State) (c : CmdError) : s.raise c = s.setErr c.code := rfl

@[simp] theorem complete_ok (s t : State) : s.complete (.ok t) = .next (t.setErr 0#4) := rfl

@[simp] theorem complete_error (s : State) (c : CmdError) : s.complete (.error c) = .next (s.setErr c.code) := rfl

/-- A completed command has either kept its writes and cleared ERR, or made no write but ERR's. -/
theorem complete_cases {s t : State} {r : Except CmdError State} (h : s.complete r = .next t) :
    (∃ u, r = .ok u ∧ t = u.setErr 0#4) ∨ (∃ c, r = .error c ∧ t = s.setErr c.code) := by
  cases r with
  | ok u => exact .inl ⟨u, rfl, (Host.Outcome.next.inj h).symm⟩
  | error c => exact .inr ⟨c, rfl, (Host.Outcome.next.inj h).symm⟩

/-- A failed command never leaves the code of success. -/
theorem CmdError.code_ne_zero (c : CmdError) : c.code ≠ 0#4 := by cases c <;> decide

/-- The codes are those of R261: none is above 0x9. -/
theorem CmdError.code_le (c : CmdError) : c.code.toNat ≤ 9 := by cases c <;> decide

theorem CmdError.code_injective {c c' : CmdError} (h : c.code = c'.code) : c = c' := by
  cases c <;> cases c' <;> first | rfl | exact absurd h (by decide)

/-- Every command ends by `State.complete` on the state it started in. -/
theorem exec_eq_complete (i : Instr) (s : State) : ∃ r, exec i s = s.complete r := by
  cases i <;>
    simp only [exec, execNop, execKeyexp, execEncblk, execDecblk, execSubbytes, execInvsubbytes, execShiftrows,
      execInvshiftrows, execMixcolumns, execInvmixcolumns, execAddroundkey, execPrimetest, execGcd, execModinv, execKeygen,
      execKeyload, execModmul, execModexp, execEncint, execDecint, execDecbyte] <;>
    exact ⟨_, rfl⟩

/-! Byte lanes. -/

theorem laneOf_wordOfLanes (b0 b1 b2 b3 : Byte) :
    laneOf (wordOfLanes b0 b1 b2 b3) 0 = b0 ∧ laneOf (wordOfLanes b0 b1 b2 b3) 1 = b1 ∧
    laneOf (wordOfLanes b0 b1 b2 b3) 2 = b2 ∧ laneOf (wordOfLanes b0 b1 b2 b3) 3 = b3 := by
  refine ⟨?_, ?_, ?_, ?_⟩ <;>
    (apply BitVec.eq_of_getLsbD_eq
     intro i hi
     simp only [laneOf, wordOfLanes, BitVec.getLsbD_extractLsb', BitVec.getLsbD_append, hi, decide_true, Bool.true_and]
     repeat' split
     all_goals first | omega | (congr 1; omega))

theorem wordOfLanes_laneOf (v : Word32) : wordOfLanes (laneOf v 0) (laneOf v 1) (laneOf v 2) (laneOf v 3) = v := by
  apply BitVec.eq_of_getLsbD_eq
  intro i hi
  simp only [laneOf, wordOfLanes, BitVec.getLsbD_extractLsb', BitVec.getLsbD_append]
  repeat' split
  all_goals
    first
    | (rw [decide_eq_true (by omega), Bool.true_and]; congr 1; omega)

/-- A written block word changes its own four bytes to the word's lanes and no other byte. -/
theorem getElem_setBlockWord (x : Block) (k : Fin 4) (v : Word32) (i : Nat) (hi : i < 16) :
    (setBlockWord x k v)[i] = if i / 4 = k.val then laneOf v (i % 4) else x[i] := by
  simp [setBlockWord]

/-! The register map. -/

/-- Every named register stands at its own offset. -/
@[simp] theorem regAt_offset (r : Reg) : regAt r.offset = some r := by
  cases r <;> first | rfl | (rename_i k; revert k; decide)

/-- What an offset names stands at that offset, which is aligned and in the window. -/
theorem offset_lt_window (r : Reg) : r.offset < Config.windowBytes ∧ r.offset % 4 = 0 := by
  cases r <;> first | decide | (rename_i k; revert k; decide)

@[simp] theorem busRead_offset (s : State) (r : Reg) : busRead s r.offset = s.readReg r := by
  simp [busRead]

/-- A bus write to a named register other than CMD writes that register. -/
theorem busWrite_offset (s : State) (r : Reg) (v : Word32) (h : r ≠ .cmd) :
    busWrite s r.offset v = .next (s.writeReg r v) := by
  simp only [busWrite, regAt_offset]

/-- A bus write to CMD executes the word. -/
@[simp] theorem busWrite_cmd (s : State) (v : Word32) : busWrite s 0x008 v = execute v s := by
  simp [busWrite, show regAt 0x008 = some .cmd from regAt_offset .cmd]

/-- What no register write changes (CMD's command aside). -/
theorem writeReg_frame (s : State) (r : Reg) (v : Word32) :
    (s.writeReg r v).err = s.err ∧ (s.writeReg r v).pkv = s.pkv ∧ (s.writeReg r v).w = s.w ∧
    (s.writeReg r v).rr = s.rr ∧ (s.writeReg r v).p = s.p ∧ (s.writeReg r v).q = s.q ∧ (s.writeReg r v).n = s.n ∧
    (s.writeReg r v).t = s.t ∧ (s.writeReg r v).e = s.e ∧ (s.writeReg r v).d = s.d ∧
    (s.writeReg r v).pending = s.pending ∧ (s.writeReg r v).reads = s.reads ∧ (s.writeReg r v).draws = s.draws ∧
    (s.writeReg r v).resets = s.resets := by
  cases r <;> simp [State.writeReg]

/-- The stored bound of a range register is legal. -/
theorem clampRange_legal (v : Word32) : 3 ≤ (clampRange v).toNat ∧ (clampRange v).toNat ≤ 65535 := by
  simp only [clampRange, Config.primeMin, Config.primeMax, BitVec.toNat_ofNat]
  omega

/-! Execute, accesses and events. -/

theorem execute_of_decode {v : Word32} {i : Instr} (s : State) (h : decode v = .ok i) : execute v s = exec i s := by
  simp [execute, h]

theorem execute_of_reject {v : Word32} {x : DecodeError} (s : State) (h : decode v = .error x) :
    execute v s = .next (s.setErr 0x1#4) := by
  simp [execute, h, CmdError.code]

/-- An aligned 32-bit read at a window offset returns the register's value and changes nothing else. -/
theorem performAccess_read (s : State) (off : Nat) (h : off < Config.windowBytes) (ha : off % 4 = 0) :
    performAccess ⟨32, .offset off, .read⟩ s = .next (s.pushRead (busRead s off)) := by
  simp [performAccess, BusLocation.windowOffset, h, ha]

/-- An aligned 32-bit write at a window offset is BusWrite. -/
theorem performAccess_write (s : State) (off : Nat) (v : Word32) (h : off < Config.windowBytes) (ha : off % 4 = 0) :
    performAccess ⟨32, .offset off, .write v⟩ s = busWrite s off v := by
  simp [performAccess, BusLocation.windowOffset, h, ha]

/-- Every access that gives a next state is a read that is recorded or a BusWrite, at an aligned offset of the window. -/
theorem performAccess_cases {a : Access} {s t : State} (h : performAccess a s = .next t) :
    ∃ off, a.loc.windowOffset = some off ∧ a.width = 32 ∧ off % 4 = 0 ∧
      ((a.action = .read ∧ t = s.pushRead (busRead s off)) ∨ (∃ v, a.action = .write v ∧ busWrite s off v = .next t)) := by
  unfold performAccess at h
  split at h
  · cases h
  · rename_i off hoff
    split at h
    · cases h
    · split at h
      · cases h
      · refine ⟨off, hoff, by omega, by omega, ?_⟩
        split at h
        · exact .inl ⟨‹_›, (Host.Outcome.next.inj h).symm⟩
        · exact .inr ⟨_, ‹_›, h⟩

/-- What a step that answers a next state has done. -/
theorem step_cases {s t : State} (h : step s = .next t) :
    (s.pending = [] ∧ t = s) ∨
    (∃ a rest, s.pending = .access a :: rest ∧ performAccess a (s.withPending rest) = .next t) ∨
    (∃ a rest, s.pending = .reset a :: rest ∧ t = (s.withPending rest).platformReset) := by
  unfold step takeEvent at h
  split at h
  · exact .inl ⟨‹_›, (Host.Outcome.next.inj h).symm⟩
  · rename_i ev rest hp
    cases ev with
    | access a => exact .inr (.inl ⟨a, rest, hp, h⟩)
    | reset a => exact .inr (.inr ⟨a, rest, hp, (Host.Outcome.next.inj h).symm⟩)

end Sys2Proof.Machine
end

