-- ==== Sys2Proof/Laws/PerInstr.lean ====
section
/-! SUPPORT. The layout every encoded command has (spec/30_encoding.md R80, R86), per constructor. -/

namespace Sys2Proof.Laws.EncodingLayout

/-- The fields of the encoded word stand where R80 puts them, the reserved ones and those the command does not use zero.
For a number too wide for its field the bits kept are the model's choice (log entry 14). -/
def Statement (i : Instr) : Prop :=
  opcField (encode i) = i.opc ∧ (rndField (encode i)).toNat = i.rnd % 16 ∧ rsv0Field (encode i) = 0 ∧
  (klenField (encode i)).toNat = i.klen % 256 ∧ rsv1Field (encode i) = 0

/-- The fields of a word put together from R80's five parts. -/
theorem fields_of_word (k o : BitVec 8) (r : BitVec 4) :
    opcField (0#8 ++ k ++ 0#4 ++ r ++ o) = o ∧ rndField (0#8 ++ k ++ 0#4 ++ r ++ o) = r ∧
    rsv0Field (0#8 ++ k ++ 0#4 ++ r ++ o) = 0 ∧ klenField (0#8 ++ k ++ 0#4 ++ r ++ o) = k ∧
    rsv1Field (0#8 ++ k ++ 0#4 ++ r ++ o) = 0 := by
  refine ⟨?_, ?_, ?_, ?_, ?_⟩ <;>
    (apply BitVec.eq_of_getLsbD_eq
     intro i hi
     simp only [opcField, rndField, rsv0Field, klenField, rsv1Field, BitVec.getLsbD_extractLsb', BitVec.getLsbD_append, hi,
       decide_true, Bool.true_and]
     repeat' split
     all_goals first | omega | (congr 1; omega))

/-- The layout holds of any command whatever its fields hold. -/
theorem layout (i : Instr) : Statement i := by
  have h := fields_of_word (BitVec.ofNat 8 i.klen) i.opc (BitVec.ofNat 4 i.rnd)
  simp only [Statement, encode]
  exact ⟨h.1, by rw [h.2.1]; simp, h.2.2.1, by rw [h.2.2.2.1]; simp, h.2.2.2.2⟩

theorem nop : Statement .nop := layout _

theorem keyexp (klen : Nat) : Statement (.keyexp klen) := layout _

theorem encblk : Statement .encblk := layout _

theorem decblk : Statement .decblk := layout _

theorem subbytes : Statement .subbytes := layout _

theorem invsubbytes : Statement .invsubbytes := layout _

theorem shiftrows : Statement .shiftrows := layout _

theorem invshiftrows : Statement .invshiftrows := layout _

theorem mixcolumns : Statement .mixcolumns := layout _

theorem invmixcolumns : Statement .invmixcolumns := layout _

theorem addroundkey (rnd : Nat) : Statement (.addroundkey rnd) := layout _

theorem primetest : Statement .primetest := layout _

theorem gcd : Statement .gcd := layout _

theorem modinv : Statement .modinv := layout _

theorem keygen : Statement .keygen := layout _

theorem keyload : Statement .keyload := layout _

theorem modmul : Statement .modmul := layout _

theorem modexp : Statement .modexp := layout _

theorem encint : Statement .encint := layout _

theorem decint : Statement .decint := layout _

theorem decbyte : Statement .decbyte := layout _

end Sys2Proof.Laws.EncodingLayout
end

