-- ==== Sys2Proof/Tests/Slice0.lean ====
section
/-! SUPPORT. Tests on single steps, with the expected values of spec/95_test_vectors.md, and a witness for every statement that
has hypotheses. -/

namespace Sys2Proof.Tests

open Sys2Proof.Machine Sys2Proof.Spec

/-! Small states. -/

/-- Every register 0, nothing valid, nothing pending. -/
def zero : State where
  kv := false
  pkv := false
  err := 0
  key := Vector.replicate 16 0
  blk := Vector.replicate 16 0
  w := Vector.replicate 44 (Vector.replicate 4 0)
  ra := 0
  rb := 0
  rm := 0
  rr := 0
  plo := 100
  phi := 199
  p := 0
  q := 0
  n := 0
  t := 0
  e := 0
  d := 0
  pending := []
  reads := []
  draws := 0
  resets := 0

/-- Operands in RA, RB, RM. -/
def pk (a b m : Word32) : State := { zero with ra := a, rb := b, rm := m, rr := 77 }

/-- A block in BLK, no schedule. -/
def withBlk (x : Block) : State := { zero with blk := x }

/-- Key material of KEYLOAD(3, 5) (V36), a number in RA. -/
def key35 (a : Word32) : State := { zero with pkv := true, p := 3, q := 5, n := 15, t := 8, e := 3, d := 3, ra := a }

/-- Key material of KEYLOAD(101, 103) (V36), a number in RA. -/
def key101 (a : Word32) : State :=
  { zero with pkv := true, p := 101, q := 103, n := 10403, t := 10200, e := 7, d := 8743, ra := a }

/-- The key of V1. -/
def keyA : Block := #v[0x00, 0x01, 0x02, 0x03, 0x04, 0x05, 0x06, 0x07, 0x08, 0x09, 0x0a, 0x0b, 0x0c, 0x0d, 0x0e, 0x0f]

/-- The plaintext of V1. -/
def plainA : Block := #v[0x00, 0x11, 0x22, 0x33, 0x44, 0x55, 0x66, 0x77, 0x88, 0x99, 0xaa, 0xbb, 0xcc, 0xdd, 0xee, 0xff]

/-- The ciphertext of V1. -/
def ciphA : Block := #v[0x69, 0xc4, 0xe0, 0xd8, 0x6a, 0x7b, 0x04, 0x30, 0xd8, 0xcd, 0xb7, 0x80, 0x70, 0xb4, 0xc5, 0x5a]

/-- Key A and its schedule. -/
def bcu (x : Block) : State := { zero with kv := true, key := keyA, w := expandKey keyA, blk := x }

/-- The next state, `zero` where there is none. -/
def after (o : Outcome) : State :=
  match o with
  | .next t => t
  | _ => zero

/-- `s` with one access pending. -/
def pend (s : State) (evs : List HostEvent) : State := { s with pending := evs }

/-- A 32-bit read at an offset. -/
def rdAt (off : Nat) : HostEvent := .access ⟨32, .offset off, .read⟩

/-- A 32-bit write at an offset. -/
def wrAt (off : Nat) (v : Word32) : HostEvent := .access ⟨32, .offset off, .write v⟩

/-! WellFormed: an ill-formed command for each check. -/

theorem test_klen_too_wide : (Instr.keyexp 256).wellFormed = false := by decide

theorem test_rnd_too_wide : (Instr.addroundkey 16).wellFormed = false := by decide

theorem test_widest_fields : (Instr.keyexp 255).wellFormed = true ∧ (Instr.addroundkey 15).wellFormed = true := by decide

/-! Decode: the words of R85 (V50), bit by bit RSV1 KLEN RSV0 RND OPC for one word of each family. -/

theorem test_decode_block_words :
    decode 0x00000000#32 = .ok .nop ∧ decode 0x00100001#32 = .ok (.keyexp 16) ∧ decode 0x00000002#32 = .ok .encblk ∧
    decode 0x00000003#32 = .ok .decblk ∧ decode 0x00000004#32 = .ok .subbytes ∧ decode 0x00000005#32 = .ok .invsubbytes ∧
    decode 0x00000006#32 = .ok .shiftrows ∧ decode 0x00000007#32 = .ok .invshiftrows ∧
    decode 0x00000008#32 = .ok .mixcolumns ∧ decode 0x00000009#32 = .ok .invmixcolumns ∧
    decode 0x0000030A#32 = .ok (.addroundkey 3) := by decide

theorem test_decode_pk_words :
    decode 0x00000020#32 = .ok .primetest ∧ decode 0x00000021#32 = .ok .gcd ∧ decode 0x00000022#32 = .ok .modinv ∧
    decode 0x00000023#32 = .ok .keygen ∧ decode 0x00000024#32 = .ok .keyload ∧ decode 0x00000030#32 = .ok .modmul ∧
    decode 0x00000031#32 = .ok .modexp ∧ decode 0x00000032#32 = .ok .encint ∧ decode 0x00000033#32 = .ok .decint ∧
    decode 0x00000034#32 = .ok .decbyte := by decide

theorem test_decode_bits :
    decode 0b00000000_00010000_0000_0000_00000001#32 = .ok (.keyexp 16) ∧
    decode 0b00000000_00000000_0000_1010_00001010#32 = .ok (.addroundkey 10) ∧
    decode 0b00000000_00000000_0000_0000_00100001#32 = .ok .gcd ∧
    decode 0b00000000_00000000_0000_0000_00110001#32 = .ok .modexp := by decide

theorem test_decode_rejects :
    decode 0x0000000B#32 = .error .undefinedOpcode ∧ decode 0x000000FF#32 = .error .undefinedOpcode ∧
    decode 0x00000025#32 = .error .undefinedOpcode ∧ decode 0x00000035#32 = .error .undefinedOpcode ∧
    decode 0x00100101#32 = .error .unusedRnd ∧ decode 0x00100002#32 = .error .unusedKlen ∧
    decode 0x00001002#32 = .error .reservedField ∧ decode 0x80000000#32 = .error .reservedField := by decide

theorem test_encode_words :
    encode (.keyexp 16) = 0x00100001#32 ∧ encode (.addroundkey 10) = 0x00000A0A#32 ∧ encode .decbyte = 0x00000034#32 := by
  decide

/-! The block cipher: V10 to V14, V20, V1, V3. -/

theorem test_gmul : gmul 0x57 0x83 = 0xc1 ∧ gmul 0x57 0x13 = 0xfe ∧ gmul 0x0e 0xff = 0x8d := by decide

theorem test_nop_clears_err : (after (exec .nop { zero with err := 3 })).err = 0 := by decide

theorem test_subbytes : (after (exec .subbytes (withBlk plainA))).blk =
    #v[0x63, 0x82, 0x93, 0xc3, 0x1b, 0xfc, 0x33, 0xf5, 0xc4, 0xee, 0xac, 0xea, 0x4b, 0xc1, 0x28, 0x16] := by decide +kernel

theorem test_invsubbytes : (after (exec .invsubbytes (withBlk plainA))).blk =
    #v[0x52, 0xe3, 0x94, 0x66, 0x86, 0xed, 0xd3, 0x02, 0x97, 0xf9, 0x62, 0xfe, 0x27, 0xc9, 0x99, 0x7d] := by decide +kernel

theorem test_shiftrows : (after (exec .shiftrows (withBlk plainA))).blk =
    #v[0x00, 0x55, 0xaa, 0xff, 0x44, 0x99, 0xee, 0x33, 0x88, 0xdd, 0x22, 0x77, 0xcc, 0x11, 0x66, 0xbb] := by decide +kernel

theorem test_invshiftrows : (after (exec .invshiftrows (withBlk plainA))).blk =
    #v[0x00, 0xdd, 0xaa, 0x77, 0x44, 0x11, 0xee, 0xbb, 0x88, 0x55, 0x22, 0xff, 0xcc, 0x99, 0x66, 0x33] := by decide +kernel

theorem test_mixcolumns : (after (exec .mixcolumns (withBlk plainA))).blk =
    #v[0x22, 0x77, 0x00, 0x55, 0x66, 0x33, 0x44, 0x11, 0xaa, 0xff, 0x88, 0xdd, 0xee, 0xbb, 0xcc, 0x99] := by decide +kernel

theorem test_invmixcolumns : (after (exec .invmixcolumns (withBlk plainA))).blk =
    #v[0xaa, 0xff, 0x88, 0xdd, 0xee, 0xbb, 0xcc, 0x99, 0x22, 0x77, 0x00, 0x55, 0x66, 0x33, 0x44, 0x11] := by decide +kernel

theorem test_keyexp_words : busRead (after (exec (.keyexp 16) { zero with key := keyA })) 0x110 = 0xfd74aad6#32 ∧
    busRead (after (exec (.keyexp 16) { zero with key := keyA })) 0x1ac = 0xc5302b4d#32 := by decide +kernel

theorem test_keyexp_length : (after (exec (.keyexp 17) { zero with kv := true })).status = 0x21#32 := by decide

theorem test_addroundkey_last : (after (exec (.addroundkey 10) (bcu plainA))).blk =
    #v[0x13, 0x00, 0x3f, 0x4c, 0xa7, 0xc1, 0x2c, 0x60, 0x7b, 0x9e, 0x0d, 0x30, 0x81, 0xf6, 0xde, 0x3a] := by decide +kernel

/-- V15: the field check comes before the gate. -/
theorem test_addroundkey_priority : (after (exec (.addroundkey 11) zero)).status = 0x40#32 ∧
    (after (exec (.addroundkey 0) zero)).status = 0x30#32 := by decide

theorem test_encblk_known_vector : (after (exec .encblk (bcu plainA))).blk = ciphA := by decide +kernel

theorem test_decblk_known_vector : (after (exec .decblk (bcu ciphA))).blk = plainA := by decide +kernel

/-! The public-key unit: V30 to V38. -/

theorem test_primetest_square : (after (exec .primetest (pk 169 0 0))).rr = 0 := by decide +kernel

theorem test_primetest_prime : (after (exec .primetest (pk 199 0 0))).rr = 1 := by decide +kernel

theorem test_gcd : (after (exec .gcd (pk 2147483648 3145728 0))).rr = 1048576 := by decide +kernel

theorem test_gcd_zero : (after (exec .gcd (pk 0 0 0))).rr = 0 := by decide +kernel

theorem test_modinv : (after (exec .modinv (pk 7 0 10200))).rr = 8743 := by decide +kernel

theorem test_modinv_priority : (after (exec .modinv (pk 2 0 0))).err = 5 ∧ (after (exec .modinv (pk 2 0 4))).err = 6 ∧
    (after (exec .modinv (pk 2 0 4))).rr = 77 := by decide +kernel

theorem test_keygen_single_prime : (after (exec .keygen { zero with plo := 113, phi := 113 })).d = 8363 := by
  have h : primesIn 113 113 = [113] := by decide +kernel
  have h1 : ∀ k, draw [113] k = 113 := fun k => List.mem_singleton.mp (draw_mem [113] k (by simp))
  have h2 : (deriveKey 113 113).d = 8363 := by decide +kernel
  simp [exec, execKeygen, zero, h, h1, h2, after]

theorem test_keygen_no_prime : (after (exec .keygen { zero with plo := 114, phi := 126 })).err = 7 := by decide +kernel

theorem test_keyload : (after (exec .keyload (pk 101 103 0))).n = 10403 ∧ (after (exec .keyload (pk 101 103 0))).e = 7 ∧
    (after (exec .keyload (pk 101 103 0))).d = 8743 := by decide +kernel

theorem test_keyload_rejects : (after (exec .keyload (pk 121 103 0))).err = 7 ∧ (after (exec .keyload (pk 2 3 0))).err = 7 ∧
    (after (exec .keyload (pk 65537 3 0))).err = 7 := by decide +kernel

theorem test_modmul_exact : (after (exec .modmul (pk 0xffffffff 3 10))).rr = 5 := by decide +kernel

theorem test_modmul_modulus : (after (exec .modmul (pk 7 8 1))).err = 5 := by decide

theorem test_modexp : (after (exec .modexp (pk 4 13 497))).rr = 445 := by decide +kernel

theorem test_modexp_zero_zero : (after (exec .modexp (pk 0 0 5))).rr = 1 := by decide +kernel

theorem test_encint : (after (exec .encint (key101 65))).rr = 623 := by decide +kernel

theorem test_encint_wraps : (after (exec .encint (key101 10404))).rr = 1 := by decide +kernel

theorem test_decint : (after (exec .decint (key101 623))).rr = 65 := by decide +kernel

theorem test_decbyte : (after (exec .decbyte (key101 9439))).rr = 72 := by decide +kernel

theorem test_decbyte_out_of_range : (after (exec .decbyte { key101 623 with n := 11663, d := 6869 })).err = 9 := by
  decide +kernel

/-! The bus: V51. -/

theorem test_clamp : (clampRange 0).toNat = 3 ∧ (clampRange 65535).toNat = 65535 ∧ (clampRange 0xffffffff).toNat = 65535 := by
  decide

theorem test_key_write : (after (step (pend (bcu plainA) [wrAt 0x014 0x04030201#32]))).key =
    #v[0, 1, 2, 3, 1, 2, 3, 4, 8, 9, 10, 11, 12, 13, 14, 15] := by decide +kernel

theorem test_status_write_ignored : (after (step (pend { zero with err := 3 } [wrAt 0x004 0#32]))).err = 3 := by decide

theorem test_read_is_returned : (after (step (pend zero [rdAt 0x000]))).reads = [0x434c4b01#32] := by decide

theorem test_illegal_word : (after (step (zero.withFetchWord 32 0x0000000B))).status = 0x10#32 := by decide

theorem test_first_step_after_reset : (after (step (State.reset.withFetchWord 32 2))).err = 3 := by decide

/-! The driver: V41, V43. -/

theorem test_pad_full_block : (padMessage (List.replicate 16 7)).length = 32 := by decide

theorem test_unpad_zero : unpadMessage (List.replicate 16 0) = .ok (List.replicate 16 0) := by decide

theorem test_unpad_overrun : unpadMessage (List.replicate 15 0 ++ [32]) = .error .hostUnpadOverrun := by decide

/-- Log entry 13: with PKV = 0 and N = 0 the driver reports NO_PUBLIC_KEY, whatever c mod 0 is. -/
theorem test_decrypt_string_no_key :
    decryptString [7] zero =
      .error { zero with ra := BitVec.ofNat 32 (Config.modByZero 7), err := 8 } (.unexpected 8) := by rfl

/-! Witnesses: for each statement with hypotheses, a state and operands that meet them. -/

theorem witness_DecodeEncodeAgree : (Instr.keyexp 255).wellFormed = true ∧ Instr.nop.wellFormed = true := by decide

theorem witness_AcceptedWordIsItsEncoding : decode 0x00FF0001#32 = .ok (.keyexp 255) := by decide

theorem witness_IllegalWordsRaiseIllegalCmd :
    IllegalWord 0x0000000B#32 ∧ IllegalWord 0x0000001F#32 ∧ IllegalWord 0x00000025#32 ∧ IllegalWord 0x00000035#32 ∧
    IllegalWord 0x01000002#32 ∧ IllegalWord 0x00001002#32 ∧ IllegalWord 0x00010002#32 ∧ IllegalWord 0x00000101#32 ∧
    ¬ IllegalWord 0x00FF0001#32 ∧ ¬ IllegalWord 0x00000F0A#32 ∧ ¬ IllegalWord 0x00000034#32 := by
  simp [IllegalWord, LegalOpcode]

theorem witness_StepRunsDecodedCommand :
    (pend zero [issueEvent 0x21#32]).pending = issueEvent 0x21#32 :: [] ∧ decode 0x21#32 = .ok .gcd ∧
    decodeTableWord 32 0x21 = some .gcd := by decide

theorem witness_BusActionsFollowPseudocode : 0x1FC % 4 = 0 ∧ 0x1FC ≤ 0x1FC := by decide

theorem witness_StepPerformsDefinedAccess :
    (pend zero [rdAt 0x1FC]).pending = .access ⟨32, .offset 0x1FC, .read⟩ :: [] ∧
    (pend zero [.access ⟨32, .address (Config.coreBase + 0), .write 5#32⟩]).pending =
      .access ⟨32, .address (Config.coreBase + 0), .write 5#32⟩ :: [] ∧ 0x1FC < 0x200 ∧ 0x1FC % 4 = 0 :=
  ⟨rfl, rfl, by decide, by decide⟩

theorem witness_UndefinedAccessStops_outside :
    (pend zero [rdAt 0x200]).pending = .access ⟨32, .offset 0x200, .read⟩ :: [] ∧
    (BusLocation.offset 0x200).windowOffset = none := by decide

theorem witness_UndefinedAccessStops_width :
    (pend zero [.access ⟨16, .offset 0x1FC, .read⟩]).pending = .access ⟨16, .offset 0x1FC, .read⟩ :: [] ∧
    (BusLocation.offset 0x1FC).windowOffset = some 0x1FC ∧ (16 : Nat) ≠ 32 := by decide

theorem witness_UndefinedAccessStops_misaligned :
    (pend zero [rdAt 0x1FF]).pending = .access ⟨32, .offset 0x1FF, .read⟩ :: [] ∧
    (BusLocation.offset 0x1FF).windowOffset = some 0x1FF ∧ 0x1FF % 4 ≠ 0 := by decide

theorem witness_PlatformResetFromAnyState :
    (pend (bcu plainA) [.reset (some ⟨32, .offset 0x008, .write 2#32⟩)]).pending =
      .reset (some ⟨32, .offset 0x008, .write 2#32⟩) :: [] := rfl

theorem witness_IdleHostChangesNothing : zero.pending = [] := rfl

theorem witness_RepeatedReadsAgree : (pend zero [rdAt 0x1FC, rdAt 0x1FC]).pending =
    .access ⟨32, .offset 0x1FC, .read⟩ :: .access ⟨32, .offset 0x1FC, .read⟩ :: [] ∧ 0x1FC < 0x200 ∧ 0x1FC % 4 = 0 := by
  decide

theorem witness_SafeHostNeverStops : (pend zero [rdAt 0x000, wrAt 0x008 0xffffffff#32, .reset none]).SafeHost := by
  simp only [State.SafeHost]
  decide

theorem inv_key35 : (key35 14).Inv := by
  refine ⟨fun h => absurd h (by decide), fun _ => ?_, ?_, ?_⟩
  · simp only [State.KeyMaterialValid]
    decide
  · simp only [State.RangeLegal]
    decide
  · simp only [State.ErrLegal]
    decide

/-- Both validity premises of the invariant are met by one state. -/
theorem witness_StepKeepsMachineInvariant :
    let s := pend { key35 14 with kv := true, w := expandKey zero.key } [wrAt 0x010 1#32]
    s.Inv ∧ step s = .next (after (step s)) :=
  ⟨⟨fun _ => rfl, inv_key35.2⟩, rfl⟩

theorem witness_KvChangesOnlyAsStated_set :
    let s := pend zero [wrAt 0x008 0x00100001#32]
    step s = .next (after (step s)) ∧ s.kv = false ∧ (after (step s)).kv = true ∧ (after (step s)).w ≠ s.w :=
  ⟨rfl, rfl, by decide +kernel, by decide +kernel⟩

theorem witness_KvChangesOnlyAsStated_cleared :
    let s := pend { zero with kv := true } [wrAt 0x01C 0#32]
    step s = .next (after (step s)) ∧ s.kv = true ∧ (after (step s)).kv = false ∧
    NextWrite s (0x010 + 4 * (3 : Fin 4).val) 0#32 :=
  ⟨rfl, rfl, by decide +kernel, ⟨.offset 0x01C, [], rfl, rfl⟩⟩

theorem witness_PkvChangesOnlyAsStated_set :
    let s := pend (pk 3 5 0) [wrAt 0x008 0x00000024#32]
    step s = .next (after (step s)) ∧ s.pkv = false ∧ (after (step s)).pkv = true ∧ (after (step s)).p ≠ s.p :=
  ⟨rfl, rfl, by decide +kernel, by decide +kernel⟩

theorem witness_PkvChangesOnlyAsStated_cleared :
    let s := pend (key35 0) [.reset none]
    step s = .next (after (step s)) ∧ s.pkv = true ∧ (after (step s)).pkv = false :=
  ⟨rfl, rfl, by decide⟩

theorem witness_ErrChangesOnlyByCommands :
    let s := pend zero [wrAt 0x008 0x0000000B#32]
    step s = .next (after (step s)) ∧ (after (step s)).err ≠ s.err :=
  ⟨rfl, by decide⟩

/-- Each clause of the frame has a command it is about. -/
theorem witness_CommandFrame :
    exec .gcd (pk 12 18 0) = .next (after (exec .gcd (pk 12 18 0))) ∧ writesBlk .gcd = false ∧ writesSchedule .gcd = false ∧
    writesKeys .gcd = false ∧ writesRR .keyload = false ∧ Instr.gcd ≠ .keygen :=
  ⟨rfl, rfl, rfl, rfl, rfl, by decide⟩

theorem witness_UnitsAreIndependent :
    isBcuCommand .subbytes = true ∧ isPkuCommand .gcd = true ∧
    (withBlk plainA).SameBcu { key35 3 with blk := plainA } ∧ (pk 12 18 0).SamePku { pk 12 18 0 with blk := plainA } ∧
    exec .subbytes (withBlk plainA) = .next (after (exec .subbytes (withBlk plainA))) ∧
    exec .gcd (after (exec .subbytes (withBlk plainA))) = .next (after (exec .gcd (after (exec .subbytes (withBlk plainA))))) ∧
    exec .gcd (pk 12 18 0) = .next (after (exec .gcd (pk 12 18 0))) :=
  ⟨rfl, rfl, ⟨rfl, rfl, rfl, rfl⟩, ⟨rfl, rfl, rfl, rfl, rfl, rfl, rfl, rfl, rfl, rfl, rfl, rfl, rfl, rfl⟩, rfl, rfl, rfl⟩

theorem witness_SboxIsAffineOfInverse : gmul 0x53 0xca = 1#8 ∧ ((0#8 = 0#8 ∧ 0#8 = 0#8) ∨ gmul 0 0 = 1#8) := by decide

theorem witness_ScheduleRecurrence : 4 ≤ 43 ∧ 43 < 44 ∧ 43 % 4 ≠ 0 ∧ 4 ≤ 4 ∧ 4 % 4 = 0 := by decide

theorem witness_AddroundkeyCommand : 11 > 10 ∧ 10 ≤ 10 ∧ zero.kv = false ∧ (bcu plainA).kv = true := by decide

theorem witness_KeyexpCommand : (15 : Nat) ≠ 16 ∧ (17 : Nat) ≠ 16 := by decide

theorem witness_BlockCommands : (bcu plainA).kv = true ∧ zero.kv = false := by decide

theorem witness_DecblkUndoesEncblk : (bcu plainA).kv = true := by decide

theorem witness_RoundSteppingEqualsBlockCommands : (bcu plainA).kv = true ∧ (bcu plainA).pending = [] := by decide

theorem witness_PrimetestDecidesPrimality : Nat.Prime (pk 2 0 0).ra.toNat ∧ ¬ Nat.Prime (pk 1 0 0).ra.toNat := by
  change Nat.Prime 2 ∧ ¬ Nat.Prime 1
  norm_num

theorem witness_ModinvIsTheUniqueInverse : 2 ≤ 2 ∧ Nat.gcd (1 % 2) 2 = 1 ∧ 1 ≤ 1 ∧ 1 ≤ 2 - 1 ∧ 1 * 1 % 2 = 1 := by decide

theorem witness_ModinvCommand :
    (pk 3 0 1).rm.toNat < 2 ∧
    (2 ≤ (pk 2 0 2).rm.toNat ∧ Nat.gcd ((pk 2 0 2).ra.toNat % (pk 2 0 2).rm.toNat) (pk 2 0 2).rm.toNat ≠ 1) ∧
    (2 ≤ (pk 1 0 2).rm.toNat ∧ Nat.gcd ((pk 1 0 2).ra.toNat % (pk 1 0 2).rm.toNat) (pk 1 0 2).rm.toNat = 1) := by decide

theorem witness_ModexpIsThePower : 2 ≤ 2 := by decide

theorem witness_ModularCommands : (pk 5 6 1).rm.toNat < 2 ∧ 2 ≤ (pk 5 6 2).rm.toNat := by decide

theorem witness_ChooseEIsLeastCoprime : 4 ≤ 4 ∧ 3 ≤ 3 ∧ 3 < chooseE 24 ∧ 24 % 2 = 0 := by decide +kernel

theorem witness_DeriveKeyMeetsInvariant : LegalPrime 3 ∧ LegalPrime 65521 := by
  constructor <;> norm_num [LegalPrime]

theorem witness_KeyloadCommand :
    (LegalPrime (pk 3 65521 0).ra.toNat ∧ LegalPrime (pk 3 65521 0).rb.toNat) ∧
    ¬ (LegalPrime (pk 2 3 0).ra.toNat ∧ LegalPrime (pk 2 3 0).rb.toNat) ∧
    ¬ (LegalPrime (pk 3 65537 0).ra.toNat ∧ LegalPrime (pk 3 65537 0).rb.toNat) := by
  change (LegalPrime 3 ∧ LegalPrime 65521) ∧ ¬ (LegalPrime 2 ∧ LegalPrime 3) ∧ ¬ (LegalPrime 3 ∧ LegalPrime 65537)
  norm_num [LegalPrime]

theorem witness_KeygenCommand_fails :
    let s : State := { zero with plo := 114, phi := 126 }
    ¬ ∃ x, s.plo.toNat ≤ x ∧ x ≤ s.phi.toNat ∧ Nat.Prime x := by
  rintro s ⟨x, h1, h2, h3⟩
  have h1' : 114 ≤ x := h1
  have h2' : x ≤ 126 := h2
  clear h1 h2
  interval_cases x <;> revert h3 <;> norm_num

theorem witness_KeygenCommand_succeeds :
    let s : State := { zero with plo := 113, phi := 113 }
    (∃ x, s.plo.toNat ≤ x ∧ x ≤ s.phi.toNat ∧ Nat.Prime x) ∧ s.RangeLegal :=
  ⟨⟨113, by decide, by decide, by norm_num⟩, by simp only [State.RangeLegal]; decide⟩

theorem witness_KeyMaterialCommands : zero.pkv = false ∧ (key35 2).pkv = true ∧ 2 ≤ (key35 2).n.toNat := by decide

theorem witness_DecbyteCommand :
    zero.pkv = false ∧ ((key35 2).pkv = true ∧ 2 ≤ (key35 2).n.toNat ∧
      (key35 2).ra.toNat ^ (key35 2).d.toNat % (key35 2).n.toNat ≤ 255) ∧
    (let s : State := { key35 256 with n := 257, d := 1 }
     s.pkv = true ∧ 2 ≤ s.n.toNat ∧ s.ra.toNat ^ s.d.toNat % s.n.toNat > 255) ∧
    (let s : State := { key35 255 with n := 257, d := 1 }
     s.pkv = true ∧ 2 ≤ s.n.toNat ∧ s.ra.toNat ^ s.d.toNat % s.n.toNat ≤ 255) := by decide

theorem witness_RsaRoundTrip : (key35 14).pkv = true ∧ (key35 14).KeyMaterialValid ∧ (key35 14).p ≠ (key35 14).q ∧
    (key35 14).ra.toNat < (key35 14).n.toNat ∧ (key35 14).ra.toNat ≤ 255 :=
  ⟨rfl, inv_key35.2.1 rfl, by decide, by decide, by decide⟩

theorem witness_UnpadTrustsLastByte : (2#8).toNat > ([] : List Byte).length + 1 ∧ (1#8).toNat ≤ ([] : List Byte).length + 1 := by
  decide

theorem witness_BlockCipherConstructChecksLength :
    (List.replicate 16 (0 : Byte)).length = 16 ∧ (List.replicate 15 (0 : Byte)).length ≠ 16 ∧
    (List.replicate 17 (0 : Byte)).length ≠ 16 := by decide

theorem witness_EncryptMessageIsEcb : (bcu plainA).kv = true := by decide

theorem witness_DecryptMessageChecksLength :
    (([] : List Byte) = [] ∨ ([] : List Byte).length % 16 ≠ 0) ∧
    (List.replicate 17 (0 : Byte) = [] ∨ (List.replicate 17 (0 : Byte)).length % 16 ≠ 0) := by decide

theorem witness_MessageRoundTrip : (bcu plainA).kv = true := by decide

theorem valid_key101 : (key101 0).KeyMaterialValid := by
  simp only [State.KeyMaterialValid]
  decide +kernel

theorem witness_StringRoundTrip : (key101 0).pkv = true ∧ (key101 0).KeyMaterialValid ∧ (key101 0).p ≠ (key101 0).q ∧
    255 < (key101 0).n.toNat :=
  ⟨rfl, valid_key101, by decide, by decide⟩

theorem witness_PublicKeyConstructReportsValidKey :
    zero.RangeLegal ∧ ∃ x, zero.plo.toNat ≤ x ∧ x ≤ zero.phi.toNat ∧ Nat.Prime x :=
  ⟨by simp only [State.RangeLegal]; decide, 101, by decide, by decide, by norm_num⟩

end Sys2Proof.Tests
end

section
/-! PROOFS. The arithmetic of key construction: Euclid's loops, the exponent search and the derived key, for every operand
(spec/42_rsa_key_construction.md R174 to R182). -/

namespace Sys2Proof.Machine
open Sys2Proof Sys2Proof.Spec

theorem gcd_mod_right (a b : Nat) : Nat.gcd b (a % b) = Nat.gcd a b := by
  rw [Nat.gcd_comm, ← Nat.gcd_rec, Nat.gcd_comm]

/-- Euclid's loop on enough fuel is the greatest common divisor (R174). -/
theorem euclid_eq_gcd : ∀ (fuel a b : Nat), b < fuel → euclid fuel a b = Nat.gcd a b
  | 0, _, _, h => absurd h (Nat.not_lt_zero _)
  | fuel + 1, a, b, h => by
    by_cases hb : b = 0
    · simp [euclid, hb]
    · have hlt : a % b < fuel := by have := Nat.mod_lt a (Nat.pos_of_ne_zero hb); omega
      rw [euclid, if_neg hb, euclid_eq_gcd fuel b (a % b) hlt, gcd_mod_right]

theorem gcdOf_eq_gcd (a b : Nat) : gcdOf a b = Nat.gcd a b := euclid_eq_gcd _ _ _ (Nat.lt_succ_self b)

/-- The search finds the least exponent from `e` on that is coprime with `r`, where its range holds one (R178). -/
theorem searchExponent_least (r : Nat) : ∀ (fuel e x : Nat), e ≤ x → x < e + fuel → Nat.gcd x r = 1 →
    e ≤ searchExponent fuel r e ∧ Nat.gcd (searchExponent fuel r e) r = 1 ∧
    ∀ y, e ≤ y → y < searchExponent fuel r e → Nat.gcd y r ≠ 1
  | 0, e, x, hle, hlt, _ => absurd hlt (by omega)
  | fuel + 1, e, x, hle, hlt, hx => by
    by_cases he : Nat.gcd e r = 1
    · simp only [searchExponent, gcdOf_eq_gcd, if_pos he]
      exact ⟨le_rfl, he, fun y h1 h2 => absurd h2 (by omega)⟩
    · have hne : e ≠ x := fun h => he (h ▸ hx)
      obtain ⟨hge, hgcd, hmin⟩ := searchExponent_least r fuel (e + 1) x (by omega) (by omega) hx
      simp only [searchExponent, gcdOf_eq_gcd, if_neg he]
      refine ⟨by omega, hgcd, fun y h1 h2 => ?_⟩
      rcases Nat.eq_or_lt_of_le h1 with rfl | h1
      · exact he
      · exact hmin y h1 h2

/-- `r - 1` is coprime with `r`, so the search for e ends below `r` (R178). -/
theorem chooseE_spec (r : Nat) (hr : 4 ≤ r) :
    3 ≤ chooseE r ∧ chooseE r ≤ r - 1 ∧ Nat.gcd (chooseE r) r = 1 ∧
    ∀ e, 3 ≤ e → e < chooseE r → Nat.gcd e r ≠ 1 := by
  have hpred : Nat.gcd (r - 1) r = 1 := (Nat.coprime_self_sub_left (by omega)).mpr (Nat.coprime_one_left r)
  obtain ⟨hge, hgcd, hmin⟩ := searchExponent_least r r 3 (r - 1) (by omega) (by omega) hpred
  exact ⟨hge, not_lt.mp fun h => hmin (r - 1) (by omega) h hpred, hgcd, hmin⟩

/-- Each coefficient of the extended loop stays one of its remainder modulo `m`, and so the result is one of the greatest
common divisor (R176). -/
theorem bezoutLoop_modEq (a m : Int) : ∀ (fuel r0 r1 : Nat) (t0 t1 : Int), r1 < fuel →
    t0 * a ≡ r0 [ZMOD m] → t1 * a ≡ r1 [ZMOD m] → bezoutLoop fuel r0 r1 t0 t1 * a ≡ Nat.gcd r0 r1 [ZMOD m]
  | 0, _, _, _, _, h, _, _ => absurd h (Nat.not_lt_zero _)
  | fuel + 1, r0, r1, t0, t1, h, h0, h1 => by
    by_cases hr : r1 = 0
    · simpa [bezoutLoop, hr] using h0
    · have hmod : r0 - r0 / r1 * r1 = r0 % r1 := by rw [Nat.mul_comm, Nat.mod_eq_sub]
      have hlt : r0 % r1 < fuel := by have := Nat.mod_lt r0 (Nat.pos_of_ne_zero hr); omega
      have hnext : (t0 - Int.ofNat (r0 / r1) * t1) * a ≡ (r0 % r1 : Nat) [ZMOD m] := by
        have hcast : ((r0 % r1 : Nat) : Int) = r0 - Int.ofNat (r0 / r1) * r1 := by
          rw [Int.natCast_mod, Int.emod_def, Int.ofNat_eq_natCast, Int.natCast_ediv, mul_comm]
        rw [hcast, sub_mul, mul_assoc]
        exact h0.sub (h1.mul_left _)
      rw [bezoutLoop, if_neg hr, hmod, ← gcd_mod_right]
      exact bezoutLoop_modEq a m fuel r1 (r0 % r1) _ _ hlt h1 hnext

theorem modinvOf_lt (a m : Nat) (hm : 0 < m) : modinvOf a m < m := by
  have h := Int.emod_lt_of_pos (bezoutLoop (a % m + 1) m (a % m) 0 1) (Int.natCast_pos.mpr hm)
  simp only [modinvOf, Int.ofNat_eq_natCast]
  omega

/-- The inverse law of R176: the loop's coefficient is one of 1 modulo `m`. -/
theorem mul_modinvOf_mod (a m : Nat) (hm : 2 ≤ m) (h : Nat.gcd (a % m) m = 1) : a * modinvOf a m % m = 1 := by
  have hbez : bezoutLoop (a % m + 1) m (a % m) 0 1 * a ≡ Nat.gcd m (a % m) [ZMOD m] :=
    bezoutLoop_modEq a m _ _ _ _ _ (Nat.lt_succ_self _) (by simp [Int.ModEq]) (by simp [Int.ModEq])
  have hval : ((modinvOf a m : Nat) : Int) = bezoutLoop (a % m + 1) m (a % m) 0 1 % m :=
    Int.toNat_of_nonneg (Int.emod_nonneg _ (Int.natCast_ne_zero.mpr (by omega)))
  have hone : ((a * modinvOf a m : Nat) : Int) ≡ (1 : Nat) [ZMOD m] := by
    rw [Nat.gcd_comm, h] at hbez
    rw [Int.natCast_mul, hval, mul_comm]
    exact ((Int.mod_modEq _ _).mul_right _).trans hbez
  exact Nat.mod_eq_of_modEq (Int.natCast_modEq_iff.mp hone) hm

theorem legalPrime_iff (x : Nat) : legalPrime x = true ↔ (3 ≤ x ∧ x ≤ 65535) ∧ isPrime x = true := by
  simp only [legalPrime, Bool.and_eq_true, decide_eq_true_eq]
  exact Iff.rfl

theorem legalPrime_bounds {x : Nat} (h : legalPrime x = true) : 3 ≤ x ∧ x ≤ 65535 := ((legalPrime_iff x).mp h).1

/-- R179: factors of 3 or more make the totient at least 4, so that it has an exponent and the exponent an inverse. Their
primality plays no part. -/
theorem deriveKey_spec (p q : Nat) (hp : 3 ≤ p) (hq : 3 ≤ q) :
    let k := deriveKey p q
    k.r < k.n ∧ 3 ≤ k.e ∧ k.e ≤ k.r - 1 ∧ Nat.gcd k.e k.r = 1 ∧ 1 ≤ k.d ∧ k.d ≤ k.r - 1 ∧ k.e * k.d % k.r = 1 := by
  intro k
  have hr4 : 4 ≤ k.r := Nat.mul_le_mul (show 2 ≤ p - 1 by omega) (show 2 ≤ q - 1 by omega)
  have hrn : k.r < k.n := Nat.mul_lt_mul'' (by omega) (by omega)
  obtain ⟨he3, her, hcop, -⟩ : 3 ≤ k.e ∧ k.e ≤ k.r - 1 ∧ Nat.gcd k.e k.r = 1 ∧ _ := chooseE_spec k.r hr4
  have hinv : k.e * k.d % k.r = 1 :=
    mul_modinvOf_mod k.e k.r (by omega) (by rwa [Nat.mod_eq_of_lt (show k.e < k.r by omega)])
  have hd : k.d < k.r := modinvOf_lt k.e k.r (by omega)
  have hdpos : k.d ≠ 0 := fun h => by simp [h] at hinv
  exact ⟨hrn, he3, her, hcop, by omega, by omega, hinv⟩

/-- The product of two legal primes fits a register (R170, R179). -/
theorem mul_legalPrimes_lt {p q : Nat} (hp : legalPrime p = true) (hq : legalPrime q = true) : p * q < 2 ^ 32 :=
  calc p * q ≤ 65535 * 65535 := Nat.mul_le_mul (legalPrime_bounds hp).2 (legalPrime_bounds hq).2
    _ < 2 ^ 32 := by decide

/-- R37: the key of two legal primes meets the key-material invariant once it stands in the registers. -/
theorem setKeyMaterial_valid (s : State) {p q : Nat} (hp : legalPrime p = true) (hq : legalPrime q = true) :
    (s.setKeyMaterial p q (deriveKey p q)).KeyMaterialValid := by
  obtain ⟨hp3, hpmax⟩ := legalPrime_bounds hp
  obtain ⟨hq3, hqmax⟩ := legalPrime_bounds hq
  have hn : (deriveKey p q).n < 2 ^ 32 := mul_legalPrimes_lt hp hq
  obtain ⟨hrn, he3, her, hcop, hd1, hdr, hinv⟩ := deriveKey_spec p q hp3 hq3
  simp only [State.KeyMaterialValid, State.setKeyMaterial_p, State.setKeyMaterial_q, State.setKeyMaterial_n,
    State.setKeyMaterial_t, State.setKeyMaterial_e, State.setKeyMaterial_d, BitVec.toNat_ofNat]
  simp (disch := omega) only [Nat.mod_eq_of_lt]
  exact ⟨hp, hq, rfl, rfl, he3, her, hcop, hd1, hdr, hinv⟩

/-- The candidates of KEYGEN are legal primes while the range registers hold legal bounds (R30, R180). -/
theorem legalPrime_of_mem_primesIn {s : State} (h : s.RangeLegal) {p : Nat} (hp : p ∈ primesIn s.plo.toNat s.phi.toNat) :
    legalPrime p = true := by
  obtain ⟨hlo, hhi, hprime⟩ := (mem_primesIn _ _ _).mp hp
  obtain ⟨hlo3, -, -, hhimax⟩ := h
  exact (legalPrime_iff p).mpr ⟨⟨hlo3.trans hlo, hhi.trans hhimax⟩, hprime⟩

end Sys2Proof.Machine
end

section
/-! PROOFS. Accepted words: each is the encoding of its command (spec/30_encoding.md R80, R85 to R89). -/

namespace Sys2Proof.Machine
open Sys2Proof Sys2Proof.Spec

/-- Every word is its five fields put together (R80). -/
theorem word_eq_fields (v : Word32) : rsv1Field v ++ klenField v ++ rsv0Field v ++ rndField v ++ opcField v = v := by
  apply BitVec.eq_of_getLsbD_eq
  intro j hj
  simp only [opcField, rndField, rsv0Field, klenField, rsv1Field, BitVec.getLsbD_append, BitVec.getLsbD_extractLsb']
  repeat' split
  all_goals rw [decide_eq_true (by omega), Bool.true_and]; congr 1; omega

/-- A command of the opcode map carries its row's OPC, and of the fields those its row has (R85). -/
theorem commandOf_fields {opc : BitVec 8} {rnd klen : Nat} {i : Instr} (h : commandOf opc rnd klen = some i) :
    i.opc = opc ∧ i.rnd = (if opc = 0x0A#8 then rnd else 0) ∧ i.klen = if opc = 0x01#8 then klen else 0 := by
  unfold commandOf at h
  split at h <;> cases h <;> exact ⟨rfl, rfl, rfl⟩

/-- What R89's checks leave of an accepted word. -/
theorem decode_fields {v : Word32} {i : Instr} (h : decode v = .ok i) :
    commandOf (opcField v) (rndField v).toNat (klenField v).toNat = some i ∧ rsv1Field v = 0 ∧ rsv0Field v = 0 ∧
    (opcField v ≠ 0x01#8 → klenField v = 0) ∧ (opcField v ≠ 0x0A#8 → rndField v = 0) := by
  unfold decode at h
  split at h
  · cases h
  next j hj =>
    split at h
    · cases h
    next hrsv =>
      split at h
      · cases h
      next hklen =>
        split at h
        · cases h
        next hrnd =>
          cases h
          simp only [not_or, not_and, not_not] at hrsv hklen hrnd
          obtain ⟨hrsv1, hrsv0⟩ := hrsv
          exact ⟨hj, hrsv1, hrsv0, hklen, hrnd⟩

/-- R88, R89: an accepted word is the encoding of its command. -/
theorem encode_of_decode {v : Word32} {i : Instr} (h : decode v = .ok i) : encode i = v := by
  obtain ⟨hcmd, hrsv1, hrsv0, hklen, hrnd⟩ := decode_fields h
  obtain ⟨hopc, hirnd, hiklen⟩ := commandOf_fields hcmd
  have hk : BitVec.ofNat 8 i.klen = klenField v := by
    rw [hiklen]
    split
    · simp
    next hne => simp [hklen hne]
  have hr : BitVec.ofNat 4 i.rnd = rndField v := by
    rw [hirnd]
    split
    · simp
    next hne => simp [hrnd hne]
  calc encode i = 0#8 ++ klenField v ++ 0#4 ++ rndField v ++ opcField v := by rw [encode, hk, hr, hopc]
    _ = rsv1Field v ++ klenField v ++ rsv0Field v ++ rndField v ++ opcField v := by rw [hrsv1, hrsv0]; rfl
    _ = v := word_eq_fields v

end Sys2Proof.Machine
end

section
/-! PROOFS. What a command can do, said once over all 21 of them (spec/30_encoding.md R84; spec/60_exceptions.md R260, R262). -/

namespace Sys2Proof.Machine
open Sys2Proof Sys2Proof.Spec

/-- The state in which a command started in `s` can end: `s` with an error alone (R262), or with ERR 0 and the writes of the
command's row of R84. -/
inductive CommandEffect (s : State) : Instr → State → Prop
  | failed (i : Instr) (c : CmdError) : CommandEffect s i (s.setErr c.code)
  | nop : CommandEffect s .nop (s.setErr 0#4)
  | block {i : Instr} (h : writesBlk i = true) (x : Block) : CommandEffect s i ((s.setBlk x).setErr 0#4)
  | result {i : Instr} (h : writesRR i = true) (v : Nat) : CommandEffect s i ((s.setResult v).setErr 0#4)
  | schedule : CommandEffect s (.keyexp 16) ((s.setSchedule (expandKey s.key)).setErr 0#4)
  | keyload (ha : legalPrime s.opA = true) (hb : legalPrime s.opB = true) :
    CommandEffect s .keyload ((s.setKeyMaterial s.opA s.opB (deriveKey s.opA s.opB)).setErr 0#4)
  | keygen {p q : Nat} (hp : p ∈ primesIn s.plo.toNat s.phi.toNat) (hq : q ∈ primesIn s.plo.toNat s.phi.toNat) :
    CommandEffect s .keygen (((s.setKeyMaterial p q (deriveKey p q)).advanceDraws 2).setErr 0#4)

/-- Where a command succeeds, a check before its writes has passed. -/
theorem gate_eq_ok {c : Prop} [Decidable c] {e : CmdError} {r : Except CmdError State} {u : State} :
    (if c then .error e else r) = .ok u ↔ ¬ c ∧ r = .ok u := by
  split <;> simp [*]

section commands
variable {s t : State} {i : Instr} {r : Except CmdError State}

theorem effect_of_complete (h : s.complete r = .next t) (hok : ∀ u, r = .ok u → CommandEffect s i (u.setErr 0#4)) :
    CommandEffect s i t := by
  obtain ⟨u, hu, rfl⟩ | ⟨c, -, rfl⟩ := complete_cases h
  · exact hok u hu
  · exact .failed i c

/-- A completed command that writes BLK on success. -/
theorem effect_of_block (h : s.complete r = .next t) (hi : writesBlk i = true)
    (hok : ∀ u, r = .ok u → ∃ x, u = s.setBlk x) : CommandEffect s i t :=
  effect_of_complete h fun u hu => by obtain ⟨x, rfl⟩ := hok u hu; exact .block hi x

/-- A completed command that writes RR on success. -/
theorem effect_of_result (h : s.complete r = .next t) (hi : writesRR i = true)
    (hok : ∀ u, r = .ok u → ∃ v, u = s.setResult v) : CommandEffect s i t :=
  effect_of_complete h fun u hu => by obtain ⟨v, rfl⟩ := hok u hu; exact .result hi v

/-- Every command, on every state it completes from, does what its row of R84 says. -/
theorem exec_effect (h : exec i s = .next t) : CommandEffect s i t := by
  cases i with
  | nop => cases h; exact .nop
  | keyexp klen =>
    refine effect_of_complete h fun u hu => ?_
    obtain ⟨hk, hu⟩ := gate_eq_ok.mp hu
    cases hu; cases not_not.mp hk
    exact .schedule
  | keyload =>
    refine effect_of_complete h fun u hu => ?_
    obtain ⟨hk, hu⟩ := gate_eq_ok.mp hu
    simp only [Bool.not_eq_false, Bool.and_eq_true] at hk
    obtain ⟨ha, hb⟩ := hk
    cases hu
    exact .keyload ha hb
  | keygen =>
    refine effect_of_complete h fun u hu => ?_
    obtain ⟨hk, hu⟩ := gate_eq_ok.mp hu
    cases hu
    have hne : primesIn s.plo.toNat s.phi.toNat ≠ [] := fun h => hk (List.isEmpty_iff.mpr h)
    exact .keygen (draw_mem _ _ hne) (draw_mem _ _ hne)
  | subbytes | invsubbytes | shiftrows | invshiftrows | mixcolumns | invmixcolumns => cases h; exact .block rfl _
  | encblk | decblk =>
    refine effect_of_block h rfl fun u hu => ?_
    obtain ⟨-, ⟨⟩⟩ := gate_eq_ok.mp hu
    exact ⟨_, rfl⟩
  | addroundkey rnd =>
    refine effect_of_block h rfl fun u hu => ?_
    obtain ⟨-, hu⟩ := gate_eq_ok.mp hu
    obtain ⟨-, ⟨⟩⟩ := gate_eq_ok.mp hu
    exact ⟨_, rfl⟩
  | primetest | gcd => cases h; exact .result rfl _
  | modmul | modexp | encint | decint =>
    refine effect_of_result h rfl fun u hu => ?_
    obtain ⟨-, ⟨⟩⟩ := gate_eq_ok.mp hu
    exact ⟨_, rfl⟩
  | modinv | decbyte =>
    refine effect_of_result h rfl fun u hu => ?_
    obtain ⟨-, hu⟩ := gate_eq_ok.mp hu
    obtain ⟨-, ⟨⟩⟩ := gate_eq_ok.mp hu
    exact ⟨_, rfl⟩

end commands

end Sys2Proof.Machine
end

section
/-! PROOFS. What a step can do, and which event stands behind it (spec/20_memory.md R58; spec/70_reset_and_hazards.md R290). -/

namespace Sys2Proof.Machine
open Sys2Proof Sys2Proof.Spec

/-- An offset names at most the register that stands there (R52). -/
theorem offset_of_regAt {off : Nat} {r : Reg} (h : regAt off = some r) : off = r.offset := by
  unfold regAt at h
  split at h
  case h_24 =>
    split at h
    next hw => cases h; simp only [Reg.offset]; omega
    next => cases h
  all_goals cases h; rfl

/-- What a BusWrite that gives a next state has done: run the word written to CMD, written another register, or nothing, at a
reserved offset (R55, R58). -/
theorem busWrite_cases {s t : State} {off : Nat} {v : Word32} (h : busWrite s off v = .next t) :
    (off = 0x008 ∧ execute v s = .next t) ∨ (∃ r, off = r.offset ∧ r ≠ .cmd ∧ t = s.writeReg r v) ∨
      (regAt off = none ∧ t = s) := by
  unfold busWrite at h
  split at h
  next hr => exact .inl ⟨offset_of_regAt hr, h⟩
  next r hne hr => exact .inr (.inl ⟨r, offset_of_regAt hr, hne, (Host.Outcome.next.inj h).symm⟩)
  next hr => exact .inr (.inr ⟨hr, (Host.Outcome.next.inj h).symm⟩)

/-- What Execute(v) can do: reject the word, or run the command whose encoding the word is (R89). -/
theorem execute_cases {s t : State} {v : Word32} (h : execute v s = .next t) :
    t = s.setErr 0x1#4 ∨ ∃ i, encode i = v ∧ CommandEffect s i t := by
  cases hd : decode v with
  | error x => exact .inl (Host.Outcome.next.inj ((execute_of_reject s hd).symm.trans h)).symm
  | ok i => exact .inr ⟨i, encode_of_decode hd, exec_effect ((execute_of_decode s hd).symm.trans h)⟩

/-- `s` once its first pending event is taken. -/
abbrev State.popEvent (s : State) : State := s.withPending s.pending.tail

/-- The state in which a step from `s` can end, with the event that brought it there. -/
inductive StepEffect (s : State) : State → Prop
  | idle (h : s.pending = []) : StepEffect s s
  | reset (h : NextReset s) : StepEffect s s.popEvent.platformReset
  | read (off : Nat) : StepEffect s (s.popEvent.pushRead (busRead s.popEvent off))
  | ignored {off : Nat} {v : Word32} (h : NextWrite s off v) (hr : regAt off = none) : StepEffect s s.popEvent
  | write {r : Reg} {v : Word32} (h : NextWrite s r.offset v) (hr : r ≠ .cmd) : StepEffect s (s.popEvent.writeReg r v)
  | illegal {v : Word32} (h : NextWrite s 0x008 v) : StepEffect s (s.popEvent.setErr 0x1#4)
  | command {i : Instr} {t : State} (h : NextWrite s 0x008 (encode i)) (he : CommandEffect s.popEvent i t) :
    StepEffect s t

theorem step_effect {s t : State} (h : step s = .next t) : StepEffect s t := by
  obtain ⟨hp, rfl⟩ | ⟨⟨width, loc, act⟩, rest, hp, ha⟩ | ⟨a, rest, hp, rfl⟩ := step_cases h
  · exact .idle hp
  · obtain rfl : rest = s.pending.tail := by rw [hp, List.tail_cons]
    obtain ⟨off, hoff, rfl, -, ⟨-, rfl⟩ | ⟨v, rfl, hw⟩⟩ := performAccess_cases ha
    · exact .read off
    · have hnext : NextWrite s off v := ⟨loc, _, hp, hoff⟩
      obtain ⟨rfl, hx⟩ | ⟨r, rfl, hr, rfl⟩ | ⟨hr, rfl⟩ := busWrite_cases hw
      · obtain rfl | ⟨i, rfl, he⟩ := execute_cases hx
        · exact .illegal hnext
        · exact .command hnext he
      · exact .write hnext hr
      · exact .ignored hnext hr
  · obtain rfl : rest = s.pending.tail := by rw [hp, List.tail_cons]
    exact .reset ⟨a, _, hp⟩

/-- A step at a write of a 32-bit word to an aligned window offset is BusWrite (R58, R61). -/
theorem step_of_nextWrite {s : State} {off : Nat} {v : Word32} (h : NextWrite s off v) (ha : off % 4 = 0) :
    step s = busWrite s.popEvent off v := by
  obtain ⟨loc, rest, hp, hoff⟩ := h
  simp [step, takeEvent, State.popEvent, hp, performEvent, performAccess, hoff, ha]

/-- "issue C" of R10 is a CMD write. -/
theorem nextWrite_of_issue {s : State} {v : Word32} {rest : List HostEvent} (h : s.pending = issueEvent v :: rest) :
    NextWrite s 0x008 v := ⟨_, rest, h, rfl⟩

theorem step_of_issue {s : State} {v : Word32} {i : Instr} {rest : List HostEvent} (h : s.pending = issueEvent v :: rest)
    (hd : decode v = .ok i) : step s = exec i (s.withPending rest) := by
  rw [step_of_nextWrite (nextWrite_of_issue h) rfl, busWrite_cmd, execute_of_decode _ hd, State.popEvent, h, List.tail_cons]

end Sys2Proof.Machine
end

section
/-! PROOFS. What changes the schedule and the key material (spec/10_state.md R27, R36). -/

namespace Sys2Proof.Machine
open Sys2Proof Sys2Proof.Spec

/-- KV and W are as they were. -/
def SameSchedule (s t : State) : Prop := t.kv = s.kv ∧ t.w = s.w

/-- PKV and the six key-material registers are as they were. -/
def SameKeyMaterial (s t : State) : Prop :=
  t.pkv = s.pkv ∧ (t.p, t.q, t.n, t.t, t.e, t.d) = (s.p, s.q, s.n, s.t, s.e, s.d)

/-- A key whose registers are as they were is as valid as it was. -/
theorem SameKeyMaterial.valid {s t : State} (h : SameKeyMaterial s t) (hs : s.KeyMaterialValid) : t.KeyMaterialValid := by
  obtain ⟨-, hkeys⟩ := h
  simp only [Prod.mk.injEq] at hkeys
  obtain ⟨hp, hq, hn, ht, he, hd⟩ := hkeys
  simpa only [State.KeyMaterialValid, hp, hq, hn, ht, he, hd] using hs

section frame
variable {s t : State}

theorem commandEffect_schedule {i : Instr} (he : CommandEffect s i t) :
    SameSchedule s t ∨ (i = .keyexp 16 ∧ t.kv = true) := by
  cases he with
  | failed | nop | block | result | keyload | keygen => exact .inl ⟨rfl, rfl⟩
  | schedule => exact .inr ⟨rfl, rfl⟩

theorem commandEffect_keyMaterial {i : Instr} (he : CommandEffect s i t) :
    SameKeyMaterial s t ∨ ((i = .keygen ∨ i = .keyload) ∧ t.pkv = true) := by
  cases he with
  | failed | nop | block | result | schedule => exact .inl ⟨rfl, rfl⟩
  | keyload => exact .inr ⟨.inr rfl, rfl⟩
  | keygen => exact .inr ⟨.inl rfl, rfl⟩

/-- A register write leaves W, and KV too but for a KEY write, which clears it (R27). -/
theorem writeReg_schedule (s : State) (r : Reg) (v : Word32) :
    SameSchedule s (s.writeReg r v) ∨
      ((∃ k, r = .key k) ∧ (s.writeReg r v).kv = false ∧ (s.writeReg r v).w = s.w) := by
  obtain ⟨-, -, hw, -⟩ := writeReg_frame s r v
  cases r with
  | key k => exact .inr ⟨⟨k, rfl⟩, rfl, hw⟩
  | id | status | cmd | blk | ra | rb | rm | rr | plo | phi | p | q | n | t | e | d | w =>
    exact .inl ⟨by simp only [State.writeReg], hw⟩

theorem writeReg_keyMaterial (s : State) (r : Reg) (v : Word32) : SameKeyMaterial s (s.writeReg r v) := by
  obtain ⟨-, hpkv, -, -, hp, hq, hn, ht, he, hd, -⟩ := writeReg_frame s r v
  exact ⟨hpkv, by rw [hp, hq, hn, ht, he, hd]⟩

/-- The four ways of a step with the schedule: left alone, reset, replaced by KEYEXP, or made invalid by a KEY write. -/
theorem step_schedule (h : step s = .next t) :
    SameSchedule s t ∨ (NextReset s ∧ t.kv = false) ∨ (NextWrite s 0x008 (encode (.keyexp 16)) ∧ t.kv = true) ∨
    ((∃ (k : Fin 4) (v : Word32), NextWrite s (Reg.key k).offset v) ∧ t.kv = false ∧ t.w = s.w) := by
  cases step_effect h with
  | idle | read | ignored | illegal => exact .inl ⟨rfl, rfl⟩
  | reset hr => exact .inr (.inl ⟨hr, rfl⟩)
  | @write r v hw =>
    obtain hsame | ⟨⟨k, rfl⟩, hkv, hsched⟩ := writeReg_schedule s.popEvent r v
    · exact .inl hsame
    · exact .inr (.inr (.inr ⟨⟨k, v, hw⟩, hkv, hsched⟩))
  | command hw he =>
    obtain hsame | ⟨rfl, hkv⟩ := commandEffect_schedule he
    · exact .inl hsame
    · exact .inr (.inr (.inl ⟨hw, hkv⟩))

/-- The three ways of a step with the key material: left alone, reset, or replaced by KEYGEN or KEYLOAD. -/
theorem step_keyMaterial (h : step s = .next t) :
    SameKeyMaterial s t ∨ (NextReset s ∧ t.pkv = false) ∨
    ((NextWrite s 0x008 (encode .keygen) ∨ NextWrite s 0x008 (encode .keyload)) ∧ t.pkv = true) := by
  cases step_effect h with
  | idle | read | ignored | illegal => exact .inl ⟨rfl, rfl⟩
  | reset hr => exact .inr (.inl ⟨hr, rfl⟩)
  | @write r v => exact .inl (writeReg_keyMaterial s.popEvent r v)
  | command hw he =>
    obtain hsame | ⟨rfl | rfl, hpkv⟩ := commandEffect_keyMaterial he
    · exact .inl hsame
    · exact .inr (.inr ⟨.inl hw, hpkv⟩)
    · exact .inr (.inr ⟨.inr hw, hpkv⟩)

/-- A step at a KEY write clears KV and leaves W (R27). -/
theorem step_of_keyWrite {k : Fin 4} {v : Word32} (hw : NextWrite s (Reg.key k).offset v) (h : step s = .next t) :
    t.kv = false ∧ t.w = s.w := by
  obtain ⟨-, haligned⟩ := offset_lt_window (.key k)
  rw [step_of_nextWrite hw haligned, busWrite_offset _ _ _ Reg.noConfusion] at h
  cases h
  exact ⟨rfl, rfl⟩

end frame

end Sys2Proof.Machine
end

section
/-! PROOFS. The invariant of the machine, update by update and then over a step (spec/10_state.md R27, R30 to R37, R41). -/

namespace Sys2Proof.Machine
open Sys2Proof Sys2Proof.Spec

section inv
variable {s : State}

theorem inv_setErr (h : s.Inv) {c : BitVec 4} (hc : c.toNat ≤ 9) : (s.setErr c).Inv := by
  obtain ⟨hkv, hpkv, hrange, -⟩ := h
  exact ⟨hkv, hpkv, hrange, hc⟩

/-- KEYEXP's schedule is the one of the current KEY (R27). -/
theorem inv_setSchedule (h : s.Inv) : (s.setSchedule (expandKey s.key)).Inv := by
  obtain ⟨-, hpkv, hrange, herr⟩ := h
  exact ⟨fun _ => rfl, hpkv, hrange, herr⟩

theorem inv_setKeyMaterial (h : s.Inv) {p q : Nat} (hp : legalPrime p = true) (hq : legalPrime q = true) :
    (s.setKeyMaterial p q (deriveKey p q)).Inv := by
  obtain ⟨hkv, -, hrange, herr⟩ := h
  exact ⟨hkv, fun _ => setKeyMaterial_valid s hp hq, hrange, herr⟩

/-- A KEY write clears KV with the key it changes (R27). -/
theorem scheduleCurrent_writeReg (h : s.kv = true → s.ScheduleCurrent) (r : Reg) (v : Word32) :
    (s.writeReg r v).kv = true → (s.writeReg r v).ScheduleCurrent := by
  cases r with
  | key k => exact fun hk => absurd hk Bool.false_ne_true
  | id | status | cmd | blk | ra | rb | rm | rr | plo | phi | p | q | n | t | e | d | w =>
    simpa only [State.writeReg, State.ScheduleCurrent] using h

/-- PLO and PHI take clamped values (R30). -/
theorem rangeLegal_writeReg (h : s.RangeLegal) (r : Reg) (v : Word32) : (s.writeReg r v).RangeLegal := by
  obtain ⟨hplo3, hplomax, hphi3, hphimax⟩ := id h
  obtain ⟨hv3, hvmax⟩ := clampRange_legal v
  cases r with
  | plo => simpa only [State.RangeLegal, State.writeReg] using ⟨hv3, hvmax, hphi3, hphimax⟩
  | phi => simpa only [State.RangeLegal, State.writeReg] using ⟨hplo3, hplomax, hv3, hvmax⟩
  | id | status | cmd | key | blk | ra | rb | rm | rr | p | q | n | t | e | d | w =>
    simpa only [State.RangeLegal, State.writeReg] using h

theorem inv_writeReg (h : s.Inv) (r : Reg) (v : Word32) : (s.writeReg r v).Inv := by
  obtain ⟨hkv, hpkv, hrange, herr⟩ := h
  obtain ⟨hcode, hpkv', -⟩ := writeReg_frame s r v
  have hvalid : (s.writeReg r v).pkv = true → (s.writeReg r v).KeyMaterialValid := fun hk =>
    (writeReg_keyMaterial s r v).valid (hpkv (hpkv'.symm.trans hk))
  exact ⟨scheduleCurrent_writeReg hkv r v, hvalid, rangeLegal_writeReg hrange r v, by rwa [State.ErrLegal, hcode]⟩

/-- After a reset nothing is valid and the range is PLO's and PHI's reset values (R41). -/
theorem inv_afterReset (k draws : Nat) (pending : List HostEvent) (reads : List Word32) :
    (State.afterReset k draws pending reads).Inv :=
  have hrange : 3 ≤ (100#32).toNat ∧ (100#32).toNat ≤ 65535 ∧ 3 ≤ (199#32).toNat ∧ (199#32).toNat ≤ 65535 := by decide
  ⟨fun hk => absurd hk Bool.false_ne_true, fun hk => absurd hk Bool.false_ne_true, hrange, Nat.zero_le 9⟩

theorem inv_commandEffect (h : s.Inv) {i : Instr} {t : State} (he : CommandEffect s i t) : t.Inv := by
  cases he with
  | failed _ c => exact inv_setErr h c.code_le
  | nop => exact inv_setErr h (Nat.zero_le 9)
  | block _ x => exact inv_setErr (s := s.setBlk x) h (Nat.zero_le 9)
  | result _ v => exact inv_setErr (s := s.setResult v) h (Nat.zero_le 9)
  | schedule => exact inv_setErr (inv_setSchedule h) (Nat.zero_le 9)
  | keyload ha hb => exact inv_setErr (inv_setKeyMaterial h ha hb) (Nat.zero_le 9)
  | @keygen p q hp hq =>
    obtain ⟨-, -, hrange, -⟩ := id h
    have hkeys := inv_setKeyMaterial h (legalPrime_of_mem_primesIn hrange hp) (legalPrime_of_mem_primesIn hrange hq)
    exact inv_setErr (s := (s.setKeyMaterial p q (deriveKey p q)).advanceDraws 2) hkeys (Nat.zero_le 9)

theorem inv_stepEffect (h : s.Inv) {t : State} (he : StepEffect s t) : t.Inv := by
  have hpop : s.popEvent.Inv := h
  cases he with
  | idle => exact h
  | reset => exact inv_afterReset _ _ _ _
  | read | ignored => exact hpop
  | write => exact inv_writeReg hpop _ _
  | illegal => exact inv_setErr hpop (by decide)
  | command _ hc => exact inv_commandEffect hpop hc

end inv

end Sys2Proof.Machine
end

section
/-! PROOFS. The obligations of spec/10_state.md. -/

namespace Sys2Proof.Machine
open Sys2Proof Sys2Proof.Spec

/-- Settles O15: of what a step can do, only KEYEXP, a KEY write, KEYGEN, KEYLOAD, a range write, a reset and a command's error
touch what the invariant speaks of, and each leaves it. -/
theorem stepKeepsMachineInvariant : Obligations.StepKeepsMachineInvariant := fun _ _ hinv h =>
  inv_stepEffect hinv (step_effect h)

/-- Settles O17: each way a step has with the schedule, against what the clause says became of KV or W. -/
theorem kvChangesOnlyAsStated : Obligations.KvChangesOnlyAsStated := by
  intro s t h
  have hcases := step_schedule h
  rw [show encode (.keyexp 16) = 0x00100001#32 by decide] at hcases
  refine ⟨fun hs ht => ?_, fun hs ht => ?_, fun hne => ?_, fun k v hw => step_of_keyWrite hw h⟩
  · obtain ⟨hkv, -⟩ | ⟨-, hkv⟩ | ⟨hw, -⟩ | ⟨-, hkv, -⟩ := hcases
    · simp [hs, ht] at hkv
    · simp [ht] at hkv
    · exact hw
    · simp [ht] at hkv
  · obtain ⟨hkv, -⟩ | ⟨hr, -⟩ | ⟨-, hkv⟩ | ⟨hw, -, -⟩ := hcases
    · simp [hs, ht] at hkv
    · exact .inl hr
    · simp [ht] at hkv
    · exact .inr hw
  · obtain ⟨-, heq⟩ | ⟨hr, -⟩ | ⟨hw, -⟩ | ⟨-, -, heq⟩ := hcases
    · exact absurd heq hne
    · exact .inl hr
    · exact .inr hw
    · exact absurd heq hne

/-- Settles O18: each way a step has with the key material, against what the clause says became of PKV or the registers. -/
theorem pkvChangesOnlyAsStated : Obligations.PkvChangesOnlyAsStated := by
  intro s t h
  have hcases := step_keyMaterial h
  rw [show encode .keygen = 0x00000023#32 by decide, show encode .keyload = 0x00000024#32 by decide] at hcases
  refine ⟨fun hs ht => ?_, fun hs ht => ?_, fun hne => ?_⟩
  · obtain ⟨hpkv, -⟩ | ⟨-, hpkv⟩ | ⟨hw, -⟩ := hcases
    · simp [hs, ht] at hpkv
    · simp [ht] at hpkv
    · exact hw
  · obtain ⟨hpkv, -⟩ | ⟨hr, -⟩ | ⟨-, hpkv⟩ := hcases
    · simp [hs, ht] at hpkv
    · exact hr
    · simp [ht] at hpkv
  · obtain ⟨-, heq⟩ | ⟨hr, -⟩ | ⟨hw, -⟩ := hcases
    · exact absurd heq hne
    · exact .inl hr
    · exact .inr hw

/-- Settles O5: both forms place an issued word at the head of the host's list. -/
theorem stepRunsDecodedCommand : Obligations.StepRunsDecodedCommand := by
  refine ⟨fun s v i rest hp hd => step_of_issue hp hd, fun s w i hd => ?_⟩
  have hok : decode (BitVec.ofNat 32 (w % 2 ^ 32)) = .ok i := by
    unfold decodeTableWord at hd
    split at hd
    next j hj => cases hd; exact hj
    next => cases hd
  exact step_of_issue (s := s.withFetchWord 32 w) rfl hok

/-- Settles O10, by the reset values and the registers at the two offsets. -/
theorem resetLeavesSpecifiedValues : Obligations.ResetLeavesSpecifiedValues :=
  ⟨rfl, rfl, rfl, rfl, rfl, busRead_offset State.reset .id, busRead_offset State.reset .status⟩

/-- Settles O12: an empty list is the idle case of a step. -/
theorem idleHostChangesNothing : Obligations.IdleHostChangesNothing := by
  intro s hp
  simp only [step, takeEvent, hp]

/-- Settles O16: the first reset is the reset of number 0. -/
theorem resetMeetsMachineInvariant : Obligations.ResetMeetsMachineInvariant := inv_afterReset 0 0 [] []

end Sys2Proof.Machine
end

section
/-! PROOFS. Byte lanes, STATUS and the register map in the form of R58's case tables (spec/20_memory.md R52, R53, R58). -/

namespace Sys2Proof.Machine
open Sys2Proof Sys2Proof.Spec

/-- R58 puts four bytes together with shifts, the model with concatenation: bit j of either is bit j % 8 of byte j / 8. -/
theorem le32_eq_wordOfLanes (f : Nat → Byte) (i : Nat) :
    le32 f i = wordOfLanes (f i) (f (i + 1)) (f (i + 2)) (f (i + 3)) := by
  apply BitVec.eq_of_getLsbD_eq
  intro j hj
  simp only [le32, wordOfLanes, BitVec.getLsbD_or, BitVec.getLsbD_shiftLeft, BitVec.getLsbD_setWidth, BitVec.getLsbD_append]
  grind

theorem byteAt_of_lt (x : Block) {i : Nat} (h : i < 16) : byteAt x i = x[i] := by
  simp [byteAt, h]

theorem quadByteAt_of_lt (x : Quad) {j : Nat} (h : j < 4) : quadByteAt x j = x[j] := by
  simp [quadByteAt, h]

theorem le32_byteAt (x : Block) (k : Fin 4) : le32 (byteAt x) (4 * k.val) = blockWord x k := by
  rw [le32_eq_wordOfLanes, byteAt_of_lt, byteAt_of_lt, byteAt_of_lt, byteAt_of_lt, blockWord]

theorem le32_quadByteAt (x : Quad) : le32 (quadByteAt x) 0 = quadWord x := by
  rw [le32_eq_wordOfLanes, quadByteAt_of_lt, quadByteAt_of_lt, quadByteAt_of_lt, quadByteAt_of_lt, quadWord]

/-- Bytes 4k to 4k + 3 are those whose index has the quotient k. -/
theorem putWord_eq_setBlockWord (x : Block) (k : Fin 4) (v : Word32) : putWord x (4 * k.val) v = setBlockWord x k v := by
  refine Vector.ext fun i hi => ?_
  have hrange : (4 * k.val ≤ i ∧ i < 4 * k.val + 4) ↔ i / 4 = k.val := by omega
  rw [getElem_setBlockWord]
  simp only [putWord, Vector.getElem_ofFn, hrange]
  split
  next hk => rw [laneOf, show i - 4 * k.val = i % 4 by omega]
  next => rfl

/-- R58 shifts ERR, PKV and KV to the bits where the model's concatenation has them (R23). -/
theorem busReadTable_status (s : State) : busReadTable s 0x004 = s.status := by
  have hbits : ∀ (err : BitVec 4) (pkv kv : Bool),
      (err.setWidth 32 <<< 4) ||| (if pkv then 2#32 else 0#32) ||| (if kv then 1#32 else 0#32) =
        0#24 ++ err ++ 0#2 ++ BitVec.ofBool pkv ++ BitVec.ofBool kv := by decide
  exact hbits s.err s.pkv s.kv

theorem schedWord_of_fin (w : Schedule) (i : Fin 44) : schedWord w i.val = w[i] := by
  simp [schedWord]

/-- At a named register's offset the read table gives what the register reads as. -/
theorem busReadTable_offset (s : State) (r : Reg) : busReadTable s r.offset = s.readReg r := by
  cases r with
  | id | cmd | ra | rb | rm | rr | plo | phi | p | q | n | t | e | d => rfl
  | status => exact busReadTable_status s
  | key k =>
    change busReadTable s (0x010 + 4 * k.val) = blockWord s.key k
    simp (disch := omega) only [busReadTable, if_neg, if_pos, Nat.add_sub_cancel_left, le32_byteAt]
  | blk k =>
    change busReadTable s (0x020 + 4 * k.val) = blockWord s.blk k
    simp (disch := omega) only [busReadTable, if_neg, if_pos, Nat.add_sub_cancel_left, le32_byteAt]
  | w i =>
    change busReadTable s (0x100 + 4 * i.val) = quadWord s.w[i]
    simp (disch := omega) only [busReadTable, if_neg, if_pos, Nat.add_sub_cancel_left, Nat.mul_div_cancel_left,
      schedWord_of_fin, le32_quadByteAt]

/-- At a named register's offset the write table makes the register's write; for CMD, as for a read-only register, none. -/
theorem busWriteTable_offset (s : State) (r : Reg) (v : Word32) : busWriteTable s r.offset v = s.writeReg r v := by
  cases r with
  | id | status | cmd | ra | rb | rm | rr | plo | phi | p | q | n | t | e | d => rfl
  | key k =>
    change busWriteTable s (0x010 + 4 * k.val) v = { s with key := setBlockWord s.key k v, kv := false }
    simp (disch := omega) only [busWriteTable, if_pos, Nat.add_sub_cancel_left, putWord_eq_setBlockWord]
  | blk k =>
    change busWriteTable s (0x020 + 4 * k.val) v = { s with blk := setBlockWord s.blk k v }
    simp (disch := omega) only [busWriteTable, if_neg, if_pos, Nat.add_sub_cancel_left, putWord_eq_setBlockWord]
  | w i =>
    change busWriteTable s (0x100 + 4 * i.val) v = s
    simp (disch := omega) only [busWriteTable, if_neg]

/-- The reserved rows of the register map (R52): what lies between the named registers. -/
theorem reserved_of_regAt_none {off : Nat} (h : regAt off = none) (ha : off % 4 = 0) :
    off = 0x00C ∨ (0x030 ≤ off ∧ off ≤ 0x03C) ∨ (0x058 ≤ off ∧ off ≤ 0x05C) ∨ (0x078 ≤ off ∧ off ≤ 0x0FC) ∨
      0x1B0 ≤ off := by
  unfold regAt at h
  split at h
  case h_24 =>
    split at h
    next => cases h
    next hw =>
      simp only [imp_false] at *
      omega
  all_goals cases h

theorem busReadTable_reserved (s : State) {off : Nat} (h : regAt off = none) (ha : off % 4 = 0) :
    busReadTable s off = 0 := by
  have hres := reserved_of_regAt_none h ha
  simp (disch := omega) only [busReadTable, if_neg]
  rfl

theorem busWriteTable_reserved (s : State) (v : Word32) {off : Nat} (h : regAt off = none) (ha : off % 4 = 0) :
    busWriteTable s off v = s := by
  have hres := reserved_of_regAt_none h ha
  simp (disch := omega) only [busWriteTable, if_neg]

/-- A reserved offset reads as zero and ignores writes (R55). -/
theorem busRead_reserved (s : State) {off : Nat} (h : regAt off = none) : busRead s off = 0 := by
  simp only [busRead, h]

theorem busWrite_reserved (s : State) (v : Word32) {off : Nat} (h : regAt off = none) : busWrite s off v = .next s := by
  simp only [busWrite, h]

/-- No two registers share an offset. -/
theorem offset_injective : Function.Injective Reg.offset := fun r r' h =>
  Option.some.inj (by rw [← regAt_offset r, h, regAt_offset])

end Sys2Proof.Machine
end

section
/-! PROOFS. A step at an access of the host: the access it performs, or how it stops (spec/20_memory.md R50, R51, R57). -/

namespace Sys2Proof.Machine
open Sys2Proof Sys2Proof.Spec

/-- No register reads the host's list or the values it has read. -/
theorem busRead_hostSide (s : State) (pending : List HostEvent) (reads : List Word32) (off : Nat) :
    busRead { s with pending := pending, reads := reads } off = busRead s off := by
  cases hr : regAt off with
  | none => rw [busRead_reserved _ hr, busRead_reserved _ hr]
  | some r =>
    obtain rfl := offset_of_regAt hr
    rw [busRead_offset, busRead_offset]
    cases r <;> rfl

@[simp] theorem busRead_withPending (s : State) (l : List HostEvent) (off : Nat) :
    busRead (s.withPending l) off = busRead s off := busRead_hostSide s l s.reads off

@[simp] theorem busRead_pushRead (s : State) (v : Word32) (off : Nat) : busRead (s.pushRead v) off = busRead s off :=
  busRead_hostSide s s.pending (v :: s.reads) off

section step
variable {s : State} {rest : List HostEvent} {width off : Nat} {loc : BusLocation} {act : BusAction}

theorem step_of_access {a : Access} (h : s.pending = .access a :: rest) : step s = performAccess a (s.withPending rest) := by
  simp only [step, takeEvent, h, performEvent]

/-- An aligned 32-bit read in the window hands its value to the host and leaves every register (R57). -/
theorem step_of_read (h : s.pending = .access ⟨32, loc, .read⟩ :: rest) (hoff : loc.windowOffset = some off)
    (ha : off % 4 = 0) : step s = .next ((s.withPending rest).pushRead (busRead s off)) := by
  simp [step_of_access h, performAccess, hoff, ha]

theorem performAccess_outside (s : State) (h : loc.windowOffset = none) :
    performAccess ⟨width, loc, act⟩ s = .refused .outsideWindow := by
  simp only [performAccess, h]

theorem performAccess_width (s : State) (h : loc.windowOffset = some off) (hw : width ≠ 32) :
    performAccess ⟨width, loc, act⟩ s = .fault .accessWidth := by
  simp only [performAccess, h, if_pos hw]

theorem performAccess_misaligned (s : State) (h : loc.windowOffset = some off) (ha : off % 4 ≠ 0) :
    performAccess ⟨32, loc, act⟩ s = .fault .accessMisaligned := by
  simp only [performAccess, h, ne_eq, not_true_eq_false, if_false, if_pos ha]

end step

theorem windowOffset_offset {off : Nat} (h : off < 0x200) : (BusLocation.offset off).windowOffset = some off := if_pos h

/-- The bus address CORE_BASE + off reaches the window at `off` (R50). -/
theorem windowOffset_address {off : Nat} (h : off < 0x200) :
    (BusLocation.address (Config.coreBase + off)).windowOffset = some off := by
  have hin : Config.coreBase ≤ Config.coreBase + off ∧ Config.coreBase + off < Config.coreBase + Config.windowBytes :=
    ⟨Nat.le_add_right _ _, Nat.add_lt_add_left h _⟩
  rw [BusLocation.windowOffset, if_pos hin, Nat.add_sub_cancel_left]

/-- The two ways of a step with ERR: left alone, or reset or a CMD write (R57, R301). -/
theorem step_err {s t : State} (h : step s = .next t) : t.err = s.err ∨ NextReset s ∨ ∃ v, NextWrite s 0x008 v := by
  cases step_effect h with
  | idle | read | ignored => exact .inl rfl
  | reset hr => exact .inr (.inl hr)
  | @write r v =>
    obtain ⟨herr, -⟩ := writeReg_frame s.popEvent r v
    exact .inl herr
  | illegal hw | command hw => exact .inr (.inr ⟨_, hw⟩)

end Sys2Proof.Machine
end

section
/-! PROOFS. The obligations of spec/20_memory.md. -/

namespace Sys2Proof.Machine
open Sys2Proof Sys2Proof.Spec

/-- Settles O6: at a named register's offset each table gives the register's own read and write, at a reserved one neither. -/
theorem busActionsFollowPseudocode : Obligations.BusActionsFollowPseudocode := by
  intro s off v ha _
  cases hr : regAt off with
  | none =>
    have hne : off ≠ 0x008 := by have := reserved_of_regAt_none hr ha; omega
    rw [busRead_reserved s hr, busReadTable_reserved s hr ha, busWrite_reserved s v hr, if_neg hne,
      busWriteTable_reserved s v hr ha]
    exact ⟨rfl, rfl⟩
  | some r =>
    obtain rfl := offset_of_regAt hr
    refine ⟨by rw [busRead_offset, busReadTable_offset], ?_⟩
    by_cases hcmd : r = .cmd
    · subst hcmd
      exact busWrite_cmd s v
    · have hne : r.offset ≠ 0x008 := offset_injective.ne (a₂ := .cmd) hcmd
      rw [busWrite_offset s r v hcmd, if_neg hne, busWriteTable_offset]

/-- Settles O13: the second read meets the registers that the first one met. -/
theorem repeatedReadsAgree : Obligations.RepeatedReadsAgree := by
  intro s off rest hoff ha hp
  have hwin := windowOffset_offset hoff
  have hfirst := step_of_read hp hwin ha
  have hsecond := step_of_read (s := (s.withPending (_ :: rest)).pushRead (busRead s off)) rfl hwin ha
  rw [busRead_pushRead, busRead_withPending] at hsecond
  simp only [Host.Core.run, core, hfirst, hsecond]
  rfl

/-- Settles O19: of what a step can do, only a reset and a CMD write touch ERR. -/
theorem errChangesOnlyByCommands : Obligations.ErrChangesOnlyByCommands :=
  fun _ _ h hne => (step_err h).resolve_left hne

/-- Settles O7: both forms of the location reach the window at `off`. -/
theorem stepPerformsDefinedAccess : Obligations.StepPerformsDefinedAccess := by
  intro s loc act rest off hp hoff ha hloc
  have hwin : loc.windowOffset = some off := by
    obtain rfl | rfl := hloc
    · exact windowOffset_offset hoff
    · exact windowOffset_address hoff
  cases act with
  | read => exact step_of_read hp hwin ha
  | write v =>
    rw [step_of_nextWrite ⟨loc, rest, hp, hwin⟩ ha, State.popEvent, hp]
    rfl

/-- Settles O8, one law of a refused access for each stop. -/
theorem undefinedAccessStops : Obligations.UndefinedAccessStops := by
  intro s width loc act rest hp
  rw [step_of_access hp]
  refine ⟨performAccess_outside _, fun off => performAccess_width _, fun off hoff hw ha => ?_⟩
  subst hw
  exact performAccess_misaligned _ hoff ha

/-- Settles O9: CORE_BASE is a multiple of the window's size, and the rest is the model's own window check. -/
theorem busAddressReachesWindow : Obligations.BusAddressReachesWindow :=
  ⟨Nat.mul_mod_right 0x200 Config.corePage, fun _ => rfl⟩

end Sys2Proof.Machine
end

section
/-! PROOFS. The word of a command and the command of a word, field by field (spec/30_encoding.md R80, R85 to R89). -/

namespace Sys2Proof.Machine
open Sys2Proof Sys2Proof.Spec

/-- The opcode map gives back every command from its own OPC and fields (R85). -/
theorem commandOf_opc (i : Instr) : commandOf i.opc i.rnd i.klen = some i := by
  cases i <;> rfl

/-- A well-formed command's fields fit their widths (R82, R83). -/
theorem wellFormed_iff (i : Instr) : i.wellFormed = true ↔ i.klen < 256 ∧ i.rnd < 16 := by
  cases i <;> simp [Instr.wellFormed, Instr.klen, Instr.rnd]

/-- Only KEYEXP has a KLEN field and only ADDROUNDKEY an RND field (R80). -/
theorem unused_fields_zero (i : Instr) : (i.opc ≠ 0x01#8 → i.klen = 0) ∧ (i.opc ≠ 0x0A#8 → i.rnd = 0) := by
  obtain ⟨-, hrnd, hklen⟩ := commandOf_fields (commandOf_opc i)
  exact ⟨fun h => by rw [hklen, if_neg h], fun h => by rw [hrnd, if_neg h]⟩

/-- A word that passes R89's checks is accepted; `decode_fields` is the other direction. -/
theorem decode_of_fields {v : Word32} {i : Instr}
    (hcmd : commandOf (opcField v) (rndField v).toNat (klenField v).toNat = some i) (hrsv1 : rsv1Field v = 0)
    (hrsv0 : rsv0Field v = 0) (hklen : opcField v ≠ 0x01#8 → klenField v = 0)
    (hrnd : opcField v ≠ 0x0A#8 → rndField v = 0) : decode v = .ok i := by
  have hrsv : ¬ (rsv1Field v ≠ 0 ∨ rsv0Field v ≠ 0) := by simp [hrsv1, hrsv0]
  have hk : ¬ (opcField v ≠ 0x01#8 ∧ klenField v ≠ 0) := fun ⟨hne, h⟩ => h (hklen hne)
  have hr : ¬ (opcField v ≠ 0x0A#8 ∧ rndField v ≠ 0) := fun ⟨hne, h⟩ => h (hrnd hne)
  simp only [decode, hcmd, if_neg hrsv, if_neg hk, if_neg hr]

/-- R80, R89: the encoded word of a well-formed command passes every check and holds the command's own fields. -/
theorem decode_encode {i : Instr} (h : i.wellFormed = true) : decode (encode i) = .ok i := by
  obtain ⟨hopc, hrnd, hrsv0, hklen, hrsv1⟩ := Laws.EncodingLayout.layout i
  obtain ⟨hk, hr⟩ := (wellFormed_iff i).mp h
  rw [Nat.mod_eq_of_lt hr] at hrnd
  rw [Nat.mod_eq_of_lt hk] at hklen
  obtain ⟨hk0, hr0⟩ := unused_fields_zero i
  refine decode_of_fields ?_ hrsv1 hrsv0 (fun hne => ?_) (fun hne => ?_)
  · rw [hopc, hrnd, hklen, commandOf_opc]
  · exact BitVec.eq_of_toNat_eq (hklen.trans (hk0 (hopc ▸ hne)))
  · exact BitVec.eq_of_toNat_eq (hrnd.trans (hr0 (hopc ▸ hne)))

/-- The decoder gives no field a value too wide for it. -/
theorem wellFormed_of_decode {v : Word32} {i : Instr} (h : decode v = .ok i) : i.wellFormed = true := by
  obtain ⟨hcmd, -⟩ := decode_fields h
  obtain ⟨-, hrnd, hklen⟩ := commandOf_fields hcmd
  rw [wellFormed_iff, hklen, hrnd]
  constructor
  · split <;> omega
  · split <;> omega

/-! Illegal words, by the bit numbers of R80. -/

section fields
variable (v : Word32)

theorem opcField_eq_setWidth : opcField v = v.setWidth 8 := BitVec.setWidth_eq_extractLsb' (by decide) |>.symm

theorem toNat_opcField : (opcField v).toNat = v.toNat % 256 := by simp [opcField]

theorem toNat_rndField : (rndField v).toNat = v.toNat / 2 ^ 8 % 16 := by
  simp [rndField, Nat.shiftRight_eq_div_pow]

theorem toNat_rsv0Field : (rsv0Field v).toNat = v.toNat / 2 ^ 12 % 16 := by
  simp [rsv0Field, Nat.shiftRight_eq_div_pow]

theorem toNat_klenField : (klenField v).toNat = v.toNat / 2 ^ 16 % 256 := by
  simp [klenField, Nat.shiftRight_eq_div_pow]

/-- RSV1 is the top field, so that its value is the whole quotient. -/
theorem toNat_rsv1Field : (rsv1Field v).toNat = v.toNat / 2 ^ 24 := by
  simp only [rsv1Field, BitVec.extractLsb'_toNat, Nat.shiftRight_eq_div_pow]
  omega

end fields

/-- The opcode map has a command at R85's OPC values and nowhere else. -/
theorem commandOf_eq_none_iff (opc : BitVec 8) (rnd klen : Nat) :
    commandOf opc rnd klen = none ↔ ¬ LegalOpcode opc.toNat := by
  unfold commandOf
  split
  case h_22 =>
    simp only [LegalOpcode, ← BitVec.toNat_inj, BitVec.toNat_ofNat, imp_false] at *
    simp only [true_iff]
    omega
  all_goals simp [LegalOpcode]

/-- R86, R87: the checks of R89, stated by bit number. -/
theorem illegalWord_iff (v : Word32) :
    IllegalWord v ↔ commandOf (opcField v) (rndField v).toNat (klenField v).toNat = none ∨ rsv1Field v ≠ 0 ∨
      rsv0Field v ≠ 0 ∨ (klenField v ≠ 0 ∧ opcField v ≠ 0x01#8) ∨ (rndField v ≠ 0 ∧ opcField v ≠ 0x0A#8) := by
  simp only [IllegalWord, commandOf_eq_none_iff, ne_eq, ← BitVec.toNat_inj, toNat_opcField, toNat_rndField,
    toNat_rsv0Field, toNat_klenField, toNat_rsv1Field]
  rfl

/-- R86, R87, R89: the decoder rejects the illegal words and no others. -/
theorem decode_ok_iff (v : Word32) : (∃ i, decode v = .ok i) ↔ ¬ IllegalWord v := by
  rw [illegalWord_iff]
  constructor
  · rintro ⟨i, hd⟩
    obtain ⟨hcmd, hrsv1, hrsv0, hklen, hrnd⟩ := decode_fields hd
    rintro (hnone | h | h | ⟨hk, hne⟩ | ⟨hr, hne⟩)
    · simp [hcmd] at hnone
    · exact h hrsv1
    · exact h hrsv0
    · exact hk (hklen hne)
    · exact hr (hrnd hne)
  · intro h
    simp only [not_or, not_and', not_not] at h
    obtain ⟨hcmd, hrsv1, hrsv0, hklen, hrnd⟩ := h
    obtain ⟨i, hi⟩ := Option.ne_none_iff_exists'.mp hcmd
    exact ⟨i, decode_of_fields hi hrsv1 hrsv0 hklen hrnd⟩

/-- A decoded command is the one of the word's OPC (R81). -/
theorem opc_of_decode {v : Word32} {i : Instr} (h : decode v = .ok i) : i.opc = v.setWidth 8 := by
  obtain ⟨hcmd, -⟩ := decode_fields h
  obtain ⟨hopc, -⟩ := commandOf_fields hcmd
  rw [hopc, opcField_eq_setWidth]

end Sys2Proof.Machine
end

section
/-! PROOFS. What each effect of a command leaves unchanged (spec/30_encoding.md R84), beside the schedule and the key material. -/

namespace Sys2Proof.Machine
open Sys2Proof Sys2Proof.Spec

section frame
variable {s t : State} {i : Instr}

/-- No command writes KEY, an operand or a range bound (R24, R28, R30). -/
theorem commandEffect_operands (he : CommandEffect s i t) :
    t.key = s.key ∧ t.ra = s.ra ∧ t.rb = s.rb ∧ t.rm = s.rm ∧ t.plo = s.plo ∧ t.phi = s.phi := by
  cases he <;> exact ⟨rfl, rfl, rfl, rfl, rfl, rfl⟩

theorem commandEffect_hostSide (he : CommandEffect s i t) :
    t.pending = s.pending ∧ t.reads = s.reads ∧ t.resets = s.resets := by
  cases he <;> exact ⟨rfl, rfl, rfl⟩

theorem commandEffect_blk (he : CommandEffect s i t) : t.blk = s.blk ∨ writesBlk i = true := by
  cases he with
  | block h => exact .inr h
  | failed | nop | result | schedule | keyload | keygen => exact .inl rfl

theorem commandEffect_rr (he : CommandEffect s i t) : t.rr = s.rr ∨ writesRR i = true := by
  cases he with
  | result h => exact .inr h
  | failed | nop | block | schedule | keyload | keygen => exact .inl rfl

theorem commandEffect_draws (he : CommandEffect s i t) : t.draws = s.draws ∨ i = .keygen := by
  cases he with
  | keygen => exact .inr rfl
  | failed | nop | block | result | schedule | keyload => exact .inl rfl

end frame

end Sys2Proof.Machine
end

section
/-! PROOFS. Host programs of round commands: each is one step, and together they transform BLK (spec/30_encoding.md R91). -/

namespace Sys2Proof.Machine
open Sys2Proof Sys2Proof.Spec

/-- What a round command of the host makes of the block `b` under the schedule `w`; none for any other statement, and for a
round key that does not exist. -/
def roundEffect (w : Schedule) (b : Block) : Stmt → Option Block
  | .cmd .subbytes => some (subBytes b)
  | .cmd .invsubbytes => some (invSubBytes b)
  | .cmd .shiftrows => some (shiftRows b)
  | .cmd .invshiftrows => some (invShiftRows b)
  | .cmd .mixcolumns => some (mixColumns b)
  | .cmd .invmixcolumns => some (invMixColumns b)
  | .cmd (.addroundkey k) => if k ≤ 10 then some (addRoundKey w b k) else none
  | _ => none

/-- With a valid schedule ADDROUNDKEY adds each of the eleven round keys (R119). -/
theorem exec_addroundkey {s : State} {k : Nat} (hkv : s.kv = true) (hk : k ≤ 10) :
    exec (.addroundkey k) s = .next ((s.setBlk (addRoundKey s.w s.blk k)).setErr 0#4) := by
  have hgate : ¬ s.kv = false := by simp [hkv]
  simp only [exec, execAddroundkey, if_neg (Nat.not_lt.mpr hk), if_neg hgate, complete_ok]

/-- A step at a round command is its effect on BLK, and clears ERR. -/
theorem step_of_roundStmt {s : State} {st : Stmt} {rest : List HostEvent} {b : Block} (hkv : s.kv = true)
    (hp : s.pending = st.event :: rest) (hb : roundEffect s.w s.blk st = some b) :
    step s = .next (((s.withPending rest).setBlk b).setErr 0#4) := by
  unfold roundEffect at hb
  split at hb
  case h_7 k =>
    split at hb
    next hk =>
      cases hb
      have hwf : (Instr.addroundkey k).wellFormed = true := decide_eq_true (by omega)
      exact (step_of_issue hp (decode_encode hwf)).trans (exec_addroundkey (s := s.withPending rest) hkv hk)
    next => cases hb
  case h_8 => cases hb
  all_goals
    cases hb
    exact step_of_issue hp (decode_encode rfl)

theorem run_succ_of_step {s t : State} (h : step s = .next t) (k : Nat) :
    Host.Core.run core (k + 1) s = Host.Core.run core k t := by
  simp only [Host.Core.run, core, h]

/-- A program of round commands, run to its end, has their joint effect on BLK. -/
theorem run_roundStmts (prog : List Stmt) : ∀ {s : State} {st : Stmt} {b : Block}, s.kv = true →
    s.pending = (st :: prog).map Stmt.event → (st :: prog).foldlM (roundEffect s.w) s.blk = some b →
    Host.Core.run core (st :: prog).length s = .next (((s.withPending []).setBlk b).setErr 0#4) := by
  induction prog with
  | nil =>
    intro s st b hkv hp hb
    exact run_succ_of_step (step_of_roundStmt hkv hp (by simpa using hb)) 0
  | cons st' prog ih =>
    intro s st b hkv hp hb
    rw [List.foldlM_cons] at hb
    obtain ⟨b₁, hb₁, hrest⟩ := Option.bind_eq_some_iff.mp hb
    rw [List.length_cons, run_succ_of_step (step_of_roundStmt hkv hp hb₁)]
    exact ih (s := ((s.withPending ((st' :: prog).map Stmt.event)).setBlk b₁).setErr 0#4) hkv rfl hrest

/-- The rounds of R146, command by command, are the cipher. -/
theorem encryptByRounds_effect (w : Schedule) (b : Block) :
    encryptByRounds.foldlM (roundEffect w) b = some (cipher w b) := rfl

/-- The rounds of R148, command by command, are the inverse cipher. -/
theorem decryptByRounds_effect (w : Schedule) (b : Block) :
    decryptByRounds.foldlM (roundEffect w) b = some (invCipher w b) := rfl

/-- A program placed with an idle host runs to its end and leaves the host idle. -/
theorem run_withProgram {s : State} {prog : List Stmt} {b : Block} (hkv : s.kv = true) (hp : s.pending = [])
    (hne : prog ≠ []) (hb : prog.foldlM (roundEffect s.w) s.blk = some b) :
    Host.Core.run core prog.length (s.withProgram prog) = .next ((s.setBlk b).setErr 0#4) := by
  obtain ⟨st, prog, rfl⟩ := List.exists_cons_of_ne_nil hne
  have hidle : s.withPending [] = s := by rw [← hp]; rfl
  have hprog : (s.withProgram (st :: prog)).pending = (st :: prog).map Stmt.event := by
    simp [State.withProgram, hp]
  have hrun := run_roundStmts prog (s := s.withProgram (st :: prog)) hkv hprog hb
  rwa [show (s.withProgram (st :: prog)).withPending [] = s from hidle] at hrun

/-- With a valid schedule ENCBLK enciphers BLK (R147) and DECBLK deciphers it (R149). -/
theorem exec_blockCommands {s : State} (hkv : s.kv = true) :
    exec .encblk s = .next ((s.setBlk (cipher s.w s.blk)).setErr 0#4) ∧
    exec .decblk s = .next ((s.setBlk (invCipher s.w s.blk)).setErr 0#4) := by
  simp [exec, execEncblk, execDecblk, hkv]

end Sys2Proof.Machine
end

section
/-! PROOFS. The obligations of spec/30_encoding.md. -/

namespace Sys2Proof.Machine
open Sys2Proof Sys2Proof.Spec

/-- Settles O1: the encoded word holds the command's fields, and these fit their widths. -/
theorem decodeEncodeAgree : Obligations.DecodeEncodeAgree := fun _ h => decode_encode h

/-- Settles O2: what R89's checks leave of an accepted word is the encoding of its command. -/
theorem acceptedWordIsItsEncoding : Obligations.AcceptedWordIsItsEncoding := fun _ _ h =>
  ⟨wellFormed_of_decode h, encode_of_decode h⟩

/-- Settles O4: the decoder rejects the illegal words and no others. -/
theorem illegalWordsRaiseIllegalCmd : Obligations.IllegalWordsRaiseIllegalCmd := by
  refine fun v s => ⟨fun hill => ?_, fun hlegal => ?_⟩
  · cases hd : decode v with
    | error x => exact execute_of_reject s hd
    | ok i => exact absurd hill ((decode_ok_iff v).mp ⟨i, hd⟩)
  · obtain ⟨i, hd⟩ := (decode_ok_iff v).mpr hlegal
    exact ⟨i, hd, opc_of_decode hd, execute_of_decode s hd⟩

/-- Settles O22: the effects of a command, register group by register group. -/
theorem commandFrame : Obligations.CommandFrame := by
  intro i s t h
  have he := exec_effect h
  refine ⟨commandEffect_operands he, commandEffect_hostSide he, fun hi => ?_, fun hi => ?_, fun hi => ?_, fun hi => ?_,
    fun hi => ?_⟩
  · exact (commandEffect_blk he).resolve_right (by simp [hi])
  · obtain ⟨hkv, hw⟩ | ⟨rfl, -⟩ := commandEffect_schedule he
    · exact ⟨hw, hkv⟩
    · cases hi
  · exact (commandEffect_rr he).resolve_right (by simp [hi])
  · obtain ⟨hpkv, hkeys⟩ | ⟨rfl | rfl, -⟩ := commandEffect_keyMaterial he
    · simp only [Prod.mk.injEq] at hkeys
      obtain ⟨hp, hq, hn, ht, hexp, hd⟩ := hkeys
      exact ⟨hp, hq, hn, ht, hexp, hd, hpkv⟩
    · cases hi
    · cases hi
  · exact (commandEffect_draws he).resolve_right hi

/-- Settles O39: each program has the effect of the block command on BLK. -/
theorem roundSteppingEqualsBlockCommands : Obligations.RoundSteppingEqualsBlockCommands := by
  intro s hkv hp
  obtain ⟨henc, hdec⟩ := exec_blockCommands hkv
  rw [henc, hdec]
  exact ⟨run_withProgram hkv hp (by simp [encryptByRounds]) (encryptByRounds_effect s.w s.blk),
    run_withProgram hkv hp (by simp [decryptByRounds]) (decryptByRounds_effect s.w s.blk)⟩

/-- Settles O3, by evaluating the decoder on the twelve words. -/
theorem specWordsDecode : Obligations.SpecWordsDecode := by
  unfold Obligations.SpecWordsDecode
  decide

end Sys2Proof.Machine
end

section
/-! PROOFS. GF(2^8): gmul is additive in each operand, so that its laws follow from those of the powers of x
(spec/40_aes_round_ops.md R100 to R102). -/

namespace Sys2Proof.Machine
open Sys2Proof Sys2Proof.Spec

/-! A conditional XOR, the step of every loop over polynomials, and a loop of such steps are additive. -/

/-- A step that adds `c` where a bit is set is additive in the bit's operand. -/
theorem ite_xor_of_same {n : Nat} (p q : Bool) (x y c : BitVec n) :
    (if (p ^^ q) then x ^^^ y ^^^ c else x ^^^ y) = (if p then x ^^^ c else x) ^^^ (if q then y ^^^ c else y) := by
  have hcancel : x ^^^ y = x ^^^ c ^^^ (y ^^^ c) :=
    calc x ^^^ y = x ^^^ y ^^^ (c ^^^ c) := by rw [BitVec.xor_self, BitVec.xor_zero]
      _ = x ^^^ c ^^^ (y ^^^ c) := by ac_rfl
  cases p <;> cases q
  · rfl
  · exact BitVec.xor_assoc x y c
  · change x ^^^ y ^^^ c = x ^^^ c ^^^ y
    ac_rfl
  · exact hcancel

/-- Such a step is additive in what it adds, too. -/
theorem ite_xor_of_sum {n : Nat} (p : Bool) (x y c d : BitVec n) :
    (if p then x ^^^ y ^^^ (c ^^^ d) else x ^^^ y) = (if p then x ^^^ c else x) ^^^ (if p then y ^^^ d else y) := by
  split
  · ac_rfl
  · rfl

theorem foldl_xor {ι : Type} {n : Nat} {f g h : BitVec n → ι → BitVec n} (hstep : ∀ x y i, f (x ^^^ y) i = g x i ^^^ h y i)
    (l : List ι) : ∀ x y, l.foldl f (x ^^^ y) = l.foldl g x ^^^ l.foldl h y := by
  induction l with
  | nil => exact fun _ _ => rfl
  | cons i l ih => intro x y; simp only [List.foldl_cons, hstep, ih]

theorem xtime_eq_ite (a : Byte) : xtime a = if a.getLsbD 7 then a <<< 1 ^^^ 0x1B#8 else a <<< 1 := by
  unfold xtime
  split <;> simp

theorem xtime_xor (a b : Byte) : xtime (a ^^^ b) = xtime a ^^^ xtime b := by
  simp only [xtime_eq_ite, BitVec.getLsbD_xor, BitVec.shiftLeft_xor_distrib, ite_xor_of_same]

theorem gmulLoop_xor_left (k : Nat) : ∀ x y a a' b : Byte,
    gmulLoop k (x ^^^ y) (a ^^^ a') b = gmulLoop k x a b ^^^ gmulLoop k y a' b := by
  induction k with
  | zero => exact fun _ _ _ _ _ => rfl
  | succ k ih => intro x y a a' b; simp only [gmulLoop, xtime_xor, ite_xor_of_sum, ih]

theorem gmulLoop_xor_right (k : Nat) : ∀ x y a b b' : Byte,
    gmulLoop k (x ^^^ y) a (b ^^^ b') = gmulLoop k x a b ^^^ gmulLoop k y a b' := by
  induction k with
  | zero => exact fun _ _ _ _ _ => rfl
  | succ k ih =>
    intro x y a b b'
    simp only [gmulLoop, BitVec.getLsbD_xor, BitVec.ushiftRight_xor_distrib, ite_xor_of_same, ih]

theorem gmul_xor_left (a a' b : Byte) : gmul (a ^^^ a') b = gmul a b ^^^ gmul a' b :=
  gmulLoop_xor_left 8 0#8 0#8 a a' b

/-- gmul distributes over ⊕ (R102). -/
theorem gmul_xor_right (a b b' : Byte) : gmul a (b ^^^ b') = gmul a b ^^^ gmul a b' :=
  gmulLoop_xor_right 8 0#8 0#8 a b b'

theorem clmul_xor_left (a a' b : Byte) : clmul (a ^^^ a') b = clmul a b ^^^ clmul a' b :=
  foldl_xor (fun x y i => by
    rw [BitVec.setWidth_xor, BitVec.shiftLeft_xor_distrib, ite_xor_of_sum]) (List.range 8) 0#16 0#16

theorem clmul_xor_right (a b b' : Byte) : clmul a (b ^^^ b') = clmul a b ^^^ clmul a b' :=
  foldl_xor (fun x y i => by rw [BitVec.getLsbD_xor, ite_xor_of_same]) (List.range 8) 0#16 0#16

theorem polyMod_xor (x y : BitVec 16) : polyMod (x ^^^ y) = polyMod x ^^^ polyMod y := by
  unfold polyMod
  rw [foldl_xor fun x y i => by rw [BitVec.getLsbD_xor, ite_xor_of_same], BitVec.setWidth_xor]

/-! The powers of x. -/

theorem foldl_powers_eq (a : Byte) :
    (List.range 8).foldl (fun acc i => if a.getLsbD i then acc ^^^ 1#8 <<< i else acc) 0#8 = a := by
  revert a; decide

/-- Every byte is a sum of powers of x (R100). -/
theorem byte_induction {P : Byte → Prop} (pow : ∀ i : Fin 8, P (1#8 <<< i.val)) (xor : ∀ a b, P a → P b → P (a ^^^ b))
    (a : Byte) : P a := by
  rw [← foldl_powers_eq a]
  refine List.foldlRecOn _ _ (xor 1#8 1#8 (pow 0) (pow 0)) fun acc hacc i hi => ?_
  split
  · exact xor _ _ hacc (pow ⟨i, List.mem_range.mp hi⟩)
  · exact hacc

/-- The loop's product is the product of the polynomials modulo 0x11B (R102). -/
theorem gmul_eq_polyMod_clmul (a b : Byte) : gmul a b = polyMod (clmul a b) := by
  induction a using byte_induction with
  | xor a a' h h' => rw [gmul_xor_left, clmul_xor_left, polyMod_xor, h, h']
  | pow i =>
    induction b using byte_induction with
    | xor b b' h h' => rw [gmul_xor_right, clmul_xor_right, polyMod_xor, h, h']
    | pow j => revert i j; decide

theorem gmul_comm (a b : Byte) : gmul a b = gmul b a := by
  induction a using byte_induction with
  | xor a a' h h' => rw [gmul_xor_left, gmul_xor_right, h, h']
  | pow i =>
    induction b using byte_induction with
    | xor b b' h h' => rw [gmul_xor_left, gmul_xor_right, h, h']
    | pow j => revert i j; decide

theorem gmul_assoc (a b c : Byte) : gmul a (gmul b c) = gmul (gmul a b) c := by
  induction a using byte_induction with
  | xor a a' h h' => rw [gmul_xor_left, gmul_xor_left, gmul_xor_left, h, h']
  | pow i =>
    induction b using byte_induction with
    | xor b b' h h' => rw [gmul_xor_left, gmul_xor_right, gmul_xor_right, gmul_xor_left, h, h']
    | pow j =>
      induction c using byte_induction with
      | xor c c' h h' => rw [gmul_xor_right, gmul_xor_right, gmul_xor_right, h, h']
      | pow k => revert i j k; decide

@[simp] theorem gmul_one_left (a : Byte) : gmul 1#8 a = a := by
  induction a using byte_induction with
  | xor a b ha hb => rw [gmul_xor_right, ha, hb]
  | pow i => revert i; decide

@[simp] theorem gmul_zero_left (a : Byte) : gmul 0#8 a = 0#8 := by
  have h := gmul_xor_left 1#8 1#8 a
  rwa [BitVec.xor_self, BitVec.xor_self] at h

end Sys2Proof.Machine
end

section
/-! PROOFS. The substitution tables: a pair of inverse permutations, the forward one generated from inverses under gmul
(spec/40_aes_round_ops.md R104, R105). -/

namespace Sys2Proof.Machine
open Sys2Proof Sys2Proof.Spec

@[simp] theorem invSbox_sbox (a : Byte) : invSbox (sbox a) = a := by
  revert a; decide

@[simp] theorem sbox_invSbox (a : Byte) : sbox (invSbox a) = a := by
  revert a; decide

/-- Bit i of R104's affine map. -/
def affineBit (b : Byte) (i : Nat) : Bool :=
  b.getLsbD i ^^ b.getLsbD ((i + 4) % 8) ^^ b.getLsbD ((i + 5) % 8) ^^ b.getLsbD ((i + 6) % 8) ^^ b.getLsbD ((i + 7) % 8) ^^
    (0x63#8).getLsbD i

/-- The byte that R104's affine map takes to `y`. -/
def invAffine (y : Byte) : Byte := y.rotateLeft 1 ^^^ y.rotateLeft 3 ^^^ y.rotateLeft 6 ^^^ 0x05#8

theorem getLsbD_eq_affineBit (y : Byte) (i : Fin 8) : y.getLsbD i.val = affineBit (invAffine y) i.val := by
  revert y i; decide

/-- ginv(a) of R104: the byte from which the table's entry of `a` is generated. -/
def ginv (a : Byte) : Byte := invAffine (sbox a)

theorem gmul_ginv (a : Byte) (h : a ≠ 0#8) : gmul a (ginv a) = 1#8 := by
  revert a; decide

/-- Inverses under gmul are unique. -/
theorem eq_ginv_of_inverse {a b : Byte} (h : a = 0#8 ∧ b = 0#8 ∨ gmul a b = 1#8) : b = ginv a := by
  obtain ⟨rfl, rfl⟩ | h := h
  · decide
  · have ha : a ≠ 0#8 := by
      rintro rfl
      rw [gmul_zero_left] at h
      exact absurd h (by decide)
    calc b = gmul (gmul a (ginv a)) b := by rw [gmul_ginv a ha, gmul_one_left]
      _ = gmul (gmul a b) (ginv a) := by rw [← gmul_assoc, gmul_comm (ginv a), gmul_assoc]
      _ = ginv a := by rw [h, gmul_one_left]

end Sys2Proof.Machine
end

section
/-! PROOFS. The round transforms on the state matrix: their bytes by row and column, and that each is undone by its inverse
(spec/40_aes_round_ops.md R103, R106 to R111). -/

namespace Sys2Proof.Machine
open Sys2Proof Sys2Proof.Spec

/-- The byte of row r in column c is the one numbered 4c + r (R103). -/
theorem block_ext {s t : Block} (h : ∀ c r : Fin 4, s[4 * c.val + r.val] = t[4 * c.val + r.val]) : s = t := by
  refine Vector.ext fun i hi => ?_
  have hpos : 4 * (i / 4) + i % 4 = i := Nat.div_add_mod i 4
  simpa only [hpos] using h ⟨i / 4, by omega⟩ ⟨i % 4, by omega⟩

section columns
variable (c r : Fin 4)

theorem column_of_index : (4 * c.val + r.val) / 4 = c.val := by omega

theorem row_of_index : (4 * c.val + r.val) % 4 = r.val := by omega

theorem getElem_addRoundKey_column (w : Schedule) (s : Block) (k : Nat) :
    (addRoundKey w s k)[4 * c.val + r.val] = s[4 * c.val + r.val] ^^^ (schedWord w (4 * k + c.val))[r.val] := by
  simp only [getElem_addRoundKey, column_of_index, row_of_index]

theorem getElem_circulant (row : Quad) (s : Block) : (circulant row s)[4 * c.val + r.val] =
    gmul row[(4 - r.val) % 4] s[4 * c.val] ^^^ gmul row[(5 - r.val) % 4] s[4 * c.val + 1] ^^^
      gmul row[(6 - r.val) % 4] s[4 * c.val + 2] ^^^ gmul row[(7 - r.val) % 4] s[4 * c.val + 3] := by
  simp only [circulant, Vector.getElem_ofFn, column_of_index, row_of_index]

/-- The four equations of a column, each row of coefficients the one before it rotated right by one place (R109). -/
theorem circulant_column (row : Quad) (s : Block) :
    (circulant row s)[4 * c.val] = gmul row[0] s[4 * c.val] ^^^ gmul row[1] s[4 * c.val + 1] ^^^
      gmul row[2] s[4 * c.val + 2] ^^^ gmul row[3] s[4 * c.val + 3] ∧
    (circulant row s)[4 * c.val + 1] = gmul row[3] s[4 * c.val] ^^^ gmul row[0] s[4 * c.val + 1] ^^^
      gmul row[1] s[4 * c.val + 2] ^^^ gmul row[2] s[4 * c.val + 3] ∧
    (circulant row s)[4 * c.val + 2] = gmul row[2] s[4 * c.val] ^^^ gmul row[3] s[4 * c.val + 1] ^^^
      gmul row[0] s[4 * c.val + 2] ^^^ gmul row[1] s[4 * c.val + 3] ∧
    (circulant row s)[4 * c.val + 3] = gmul row[1] s[4 * c.val] ^^^ gmul row[2] s[4 * c.val + 1] ^^^
      gmul row[3] s[4 * c.val + 2] ^^^ gmul row[0] s[4 * c.val + 3] :=
  ⟨getElem_circulant c 0 row s, getElem_circulant c 1 row s, getElem_circulant c 2 row s, getElem_circulant c 3 row s⟩

end columns

/-- The first row of the product of the circulants with first rows `x` and `y`. -/
def mulRow (x y : Quad) : Quad := Vector.ofFn fun j =>
  gmul x[0] y[j] ^^^ gmul x[1] (y[(j.val + 3) % 4]'(by omega)) ^^^ gmul x[2] (y[(j.val + 2) % 4]'(by omega)) ^^^
    gmul x[3] (y[(j.val + 1) % 4]'(by omega))

theorem mulRow_entries (x y : Quad) :
    (mulRow x y)[0] = gmul x[0] y[0] ^^^ gmul x[1] y[3] ^^^ gmul x[2] y[2] ^^^ gmul x[3] y[1] ∧
    (mulRow x y)[1] = gmul x[0] y[1] ^^^ gmul x[1] y[0] ^^^ gmul x[2] y[3] ^^^ gmul x[3] y[2] ∧
    (mulRow x y)[2] = gmul x[0] y[2] ^^^ gmul x[1] y[1] ^^^ gmul x[2] y[0] ^^^ gmul x[3] y[3] ∧
    (mulRow x y)[3] = gmul x[0] y[3] ^^^ gmul x[1] y[2] ^^^ gmul x[2] y[1] ^^^ gmul x[3] y[0] := by
  simp [mulRow]

/-- Circulants multiply by their first rows. -/
theorem circulant_circulant (x y : Quad) (s : Block) : circulant x (circulant y s) = circulant (mulRow x y) s := by
  refine block_ext fun c r => ?_
  obtain ⟨h0, h1, h2, h3⟩ := circulant_column c y s
  obtain ⟨hz0, hz1, hz2, hz3⟩ := mulRow_entries x y
  rw [getElem_circulant, getElem_circulant, h0, h1, h2, h3]
  fin_cases r <;>
    simp only [hz0, hz1, hz2, hz3, gmul_xor_left, gmul_xor_right, gmul_assoc, Nat.reduceSub, Nat.reduceMod, Nat.sub_zero] <;>
    ac_rfl

theorem circulant_unit (s : Block) : circulant #v[1, 0, 0, 0] s = s := by
  refine block_ext fun c r => ?_
  rw [getElem_circulant]
  fin_cases r <;> simp

/-- The two circulants are inverse matrices over GF(2^8) (R110). -/
theorem invMixColumns_mixColumns (s : Block) : invMixColumns (mixColumns s) = s := by
  rw [invMixColumns, mixColumns, circulant_circulant, show mulRow invMixRow mixRow = #v[1, 0, 0, 0] by decide,
    circulant_unit]

theorem mixColumns_invMixColumns (s : Block) : mixColumns (invMixColumns s) = s := by
  rw [invMixColumns, mixColumns, circulant_circulant, show mulRow mixRow invMixRow = #v[1, 0, 0, 0] by decide,
    circulant_unit]

theorem subBytes_eq_ofFn (s : Block) : subBytes s = Vector.ofFn fun i => sbox s[i] := by
  ext i hi
  simp

theorem invSubBytes_eq_ofFn (s : Block) : invSubBytes s = Vector.ofFn fun i => invSbox s[i] := by
  ext i hi
  simp

theorem invSubBytes_subBytes (s : Block) : invSubBytes (subBytes s) = s := by
  ext1 i hi
  rw [getElem_invSubBytes, getElem_subBytes, invSbox_sbox]

theorem subBytes_invSubBytes (s : Block) : subBytes (invSubBytes s) = s := by
  ext1 i hi
  rw [getElem_subBytes, getElem_invSubBytes, sbox_invSbox]

theorem addRoundKey_addRoundKey (w : Schedule) (s : Block) (k : Nat) : addRoundKey w (addRoundKey w s k) k = s := by
  ext1 i hi
  rw [getElem_addRoundKey, getElem_addRoundKey, BitVec.xor_assoc, BitVec.xor_self, BitVec.xor_zero]

theorem shiftRows_bytes (s : Block) : shiftRows s =
    #v[s[0], s[5], s[10], s[15], s[4], s[9], s[14], s[3], s[8], s[13], s[2], s[7], s[12], s[1], s[6], s[11]] := by
  refine block_ext fun c r => ?_
  rw [getElem_shiftRows]
  fin_cases c <;> fin_cases r <;> rfl

theorem invShiftRows_bytes (s : Block) : invShiftRows s =
    #v[s[0], s[13], s[10], s[7], s[4], s[1], s[14], s[11], s[8], s[5], s[2], s[15], s[12], s[9], s[6], s[3]] := by
  refine block_ext fun c r => ?_
  rw [getElem_invShiftRows]
  fin_cases c <;> fin_cases r <;> rfl

theorem invShiftRows_shiftRows (s : Block) : invShiftRows (shiftRows s) = s := by
  ext1 i hi
  rw [getElem_invShiftRows, getElem_shiftRows]
  congr 1
  omega

theorem shiftRows_invShiftRows (s : Block) : shiftRows (invShiftRows s) = s := by
  ext1 i hi
  rw [getElem_shiftRows, getElem_invShiftRows]
  congr 1
  omega

end Sys2Proof.Machine
end

section
/-! PROOFS. How the round commands complete (spec/40_aes_round_ops.md R112 to R119). -/

namespace Sys2Proof.Machine
open Sys2Proof Sys2Proof.Spec

theorem State.setBlk_setErr_eq (s : State) (x : Block) (c : BitVec 4) :
    (s.setBlk x).setErr c = { s with blk := x, err := c } := rfl

theorem complete_setBlk (s : State) (x : Block) : s.complete (.ok (s.setBlk x)) = .next { s with blk := x, err := 0#4 } := rfl

section addroundkey
variable {s : State} {rnd : Nat}

/-- The field check comes before the gate (R267). -/
theorem exec_addroundkey_badRound (h : rnd > 10) : exec (.addroundkey rnd) s = .next (s.setErr 0x4#4) := by
  simp only [exec, execAddroundkey, if_pos h, complete_error, CmdError.code]

theorem exec_addroundkey_noKey (h : rnd ≤ 10) (hkv : s.kv = false) :
    exec (.addroundkey rnd) s = .next (s.setErr 0x3#4) := by
  simp only [exec, execAddroundkey, if_neg (Nat.not_lt.mpr h), if_pos hkv, complete_error, CmdError.code]

end addroundkey

end Sys2Proof.Machine
end

section
/-! PROOFS. The obligations of spec/40_aes_round_ops.md. -/

namespace Sys2Proof.Machine
open Sys2Proof Sys2Proof.Spec

/-- Settles O24: both sides of each law are additive in each operand and agree on the powers of x. -/
theorem gmulIsTheFieldProduct : Obligations.GmulIsTheFieldProduct := fun a b c =>
  ⟨gmul_eq_polyMod_clmul a b, gmul_comm a b, gmul_assoc a b c, gmul_xor_right a b c, gmul_one_left a, gmul_zero_left a⟩

/-- Settles O29: the equations of a circulant with first rows FM and IM, whose product is the unit circulant. -/
theorem mixColumnsEquations : Obligations.MixColumnsEquations := fun s c =>
  ⟨circulant_column c mixRow s, circulant_column c invMixRow s, invMixColumns_mixColumns s⟩

/-- Settles O30, by the byte laws of each transform and its inverse. -/
theorem roundTransformsInvert : Obligations.RoundTransformsInvert := by
  refine fun w s k => ⟨fun i => ⟨getElem_subBytes s i _, getElem_invSubBytes s i _⟩, fun m j => ?_, invSubBytes_subBytes s,
    subBytes_invSubBytes s, shiftRows_invShiftRows s, mixColumns_invMixColumns s, addRoundKey_addRoundKey w s k⟩
  simp only [getElem_addRoundKey_column, schedWord_of_lt w (4 * k.val + m.val) (by omega)]

/-- Settles O25: each table undoes the other, byte by byte. -/
theorem substitutionTablesAreInverse : Obligations.SubstitutionTablesAreInverse := fun a =>
  ⟨invSbox_sbox a, sbox_invSbox a⟩

/-- Settles O26: the byte that the affine map takes to SBOX[a] is an inverse of `a`, and so it is the only one. -/
theorem sboxIsAffineOfInverse : Obligations.SboxIsAffineOfInverse := by
  intro a b hab i
  obtain rfl := eq_ginv_of_inverse hab
  exact getLsbD_eq_affineBit (sbox a) i

/-- Settles O27: byte r + 4c stands in row r of column c. -/
theorem shiftRowsPermutesBytes : Obligations.ShiftRowsPermutesBytes := by
  refine fun s => ⟨fun r c => ?_, shiftRows_bytes s⟩
  rw [getElem_shiftRows]
  congr 1
  omega

/-- Settles O28: byte r + 4c stands in row r of column c. -/
theorem invShiftRowsPermutesBytes : Obligations.InvShiftRowsPermutesBytes := by
  refine fun s => ⟨fun r c => ?_, invShiftRows_bytes s, invShiftRows_shiftRows s⟩
  rw [getElem_invShiftRows]
  congr 1
  omega

/-- Settles O34: each of the seven commands is the completion of its transform. -/
theorem ungatedBlockCommandsComplete : Obligations.UngatedBlockCommandsComplete := by
  intro s
  rw [← subBytes_eq_ofFn, ← invSubBytes_eq_ofFn]
  exact ⟨complete_ok s s, complete_setBlk s _, complete_setBlk s _, complete_setBlk s _, complete_setBlk s _,
    complete_setBlk s _, complete_setBlk s _⟩

/-- Settles O35: the field check, the gate, and the column equations of addRoundKey. -/
theorem addroundkeyCommand : Obligations.AddroundkeyCommand := by
  refine fun s rnd => ⟨exec_addroundkey_badRound, exec_addroundkey_noKey, fun h hkv => ?_⟩
  refine ⟨addRoundKey s.w s.blk rnd, ?_, fun m j => getElem_addRoundKey_column m j s.w s.blk rnd⟩
  rw [exec_addroundkey hkv h, State.setBlk_setErr_eq]

end Sys2Proof.Machine
end

section
/-! PROOFS. The key schedule: each word of the loop is the next word of the finished schedule
(spec/41_aes_key_and_block.md R141 to R143). -/

namespace Sys2Proof.Machine
open Sys2Proof Sys2Proof.Spec

section bytes
variable {j : Nat} (hj : j < 4)

theorem getElem_xorQuad (x y : Quad) : (xorQuad x y)[j] = x[j] ^^^ y[j] := by simp [xorQuad]

theorem getElem_subWord (x : Quad) : (subWord x)[j] = sbox x[j] := by simp [subWord]

theorem getElem_rotWord (x : Quad) : (rotWord x)[j] = x[(j + 1) % 4]'(by omega) := by
  interval_cases j <;> rfl

theorem getElem_roundConstWord {k : Nat} (hk : k < 10) :
    (roundConstWord k)[j] = if j = 0 then rconTable[k] else 0#8 := by
  rw [roundConstWord, dif_pos hk]
  interval_cases j <;> rfl

end bytes

section words
variable {w : Schedule} {i j : Nat}

/-- The bytes of the word that R143 puts at index i. -/
theorem getElem_nextWord (w : Schedule) (h4 : 4 ≤ i) (hi : i < 44) (hj : j < 4) :
    (nextWord w i)[j] = (w[i - 4])[j] ^^^
      (if i % 4 = 0 then
        sbox ((w[i - 1])[(j + 1) % 4]'(by omega)) ^^^ (if j = 0 then (rconTable[i / 4 - 1]'(by omega)) else 0#8)
      else (w[i - 1])[j]) := by
  have hk : i / 4 - 1 < 10 := by omega
  rw [nextWord, getElem_xorQuad, BitVec.xor_comm, schedWord_of_lt w (i - 4) (by omega), schedWord_of_lt w (i - 1) (by omega)]
  split
  · rw [getElem_xorQuad, getElem_subWord, getElem_rotWord, getElem_roundConstWord hj hk]
  · rfl

/-- The next word is made of two words before it. -/
theorem nextWord_congr {w w' : Schedule} (h4 : 4 ≤ i) (h : ∀ k < i, schedWord w k = schedWord w' k) :
    nextWord w i = nextWord w' i := by
  rw [nextWord, nextWord, h (i - 1) (by omega), h (i - 4) (by omega)]

theorem schedWord_set_self (x : Quad) (hi : i < 44) : schedWord (w.set i x) i = x := by
  rw [schedWord_of_lt _ i hi, Vector.getElem_set_self]

theorem schedWord_set_ne (x : Quad) (hi : i < 44) (hne : i ≠ j) : schedWord (w.set i x) j = schedWord w j := by
  unfold schedWord
  split
  · exact Vector.getElem_set_ne hi _ hne
  · rfl

theorem expandFrom_succ (fuel : Nat) (w : Schedule) (hi : i < 44) :
    expandFrom (fuel + 1) i w = expandFrom fuel (i + 1) (w.set i (nextWord w i)) := by
  rw [expandFrom, dif_pos hi]

/-- The loop leaves the words before its first index. -/
theorem schedWord_expandFrom_of_lt (fuel : Nat) : ∀ {i : Nat} (w : Schedule), i + fuel ≤ 44 → j < i →
    schedWord (expandFrom fuel i w) j = schedWord w j := by
  induction fuel with
  | zero => intro i w _ _; rfl
  | succ fuel ih =>
    intro i w hle hlt
    rw [expandFrom_succ fuel w (by omega), ih _ (by omega) (by omega), schedWord_set_ne _ _ (by omega)]

/-- Each word that the loop computes is the next word of the finished schedule. -/
theorem schedWord_expandFrom (fuel : Nat) : ∀ {i : Nat} (w : Schedule), i + fuel ≤ 44 → 4 ≤ i → i ≤ j → j < i + fuel →
    schedWord (expandFrom fuel i w) j = nextWord (expandFrom fuel i w) j := by
  induction fuel with
  | zero => intro i w _ _ _ _; omega
  | succ fuel ih =>
    intro i w hle h4 hij hj
    obtain rfl | hlt := Nat.eq_or_lt_of_le hij
    · have hbefore : ∀ k < i, schedWord w k = schedWord (expandFrom (fuel + 1) i w) k := fun k hk =>
        (schedWord_expandFrom_of_lt (fuel + 1) w hle hk).symm
      rw [← nextWord_congr h4 hbefore, expandFrom_succ fuel w (by omega),
        schedWord_expandFrom_of_lt fuel _ (by omega) (Nat.lt_succ_self i), schedWord_set_self _ (by omega)]
    · rw [expandFrom_succ fuel w (by omega)]
      exact ih _ (by omega) (by omega) hlt (by omega)

/-- Words 0 to 3 of the schedule are the raw key (R143). -/
theorem getElem_expandKey_raw (key : Block) (hi : i < 4) (hj : j < 4) : ((expandKey key)[i])[j] = key[4 * i + j] := by
  have hword : schedWord (expandKey key) i = schedWord (rawKeyWords key) i :=
    schedWord_expandFrom_of_lt 40 (rawKeyWords key) (by decide) hi
  rw [schedWord_of_lt _ i (by omega), schedWord_of_lt _ i (by omega)] at hword
  rw [hword]
  simp [rawKeyWords, hi]

/-- Words 4 to 43 of the schedule follow from the words before them (R143). -/
theorem getElem_expandKey (key : Block) (h4 : 4 ≤ i) (hi : i < 44) : (expandKey key)[i] = nextWord (expandKey key) i := by
  rw [← schedWord_of_lt _ i hi]
  exact schedWord_expandFrom 40 (rawKeyWords key) (by decide) (by decide) h4 hi

end words

end Sys2Proof.Machine
end

section
/-! PROOFS. The block cipher: its rounds and its inverse's undo each other, read from either end
(spec/41_aes_key_and_block.md R146, R148, R150). -/

namespace Sys2Proof.Machine
open Sys2Proof Sys2Proof.Spec

/-- Where `g` takes back one step of `f` under `u`, the steps of `g` in reverse order take back a run of `f`. -/
theorem foldl_reverse_undoes {α ι : Type} {f g : α → ι → α} {u : α → α} (hstep : ∀ x k, g (u (f x k)) k = u x)
    (ks : List ι) : ∀ x, ks.reverse.foldl g (u (ks.foldl f x)) = u x := by
  induction ks with
  | nil => exact fun _ => rfl
  | cons k ks ih =>
    intro x
    rw [List.reverse_cons, List.foldl_append, List.foldl_cons, List.foldl_cons, ih, List.foldl_nil, hstep]

theorem invSub_invShift_shift_sub (s : Block) : invSubBytes (invShiftRows (shiftRows (subBytes s))) = s := by
  rw [invShiftRows_shiftRows, invSubBytes_subBytes]

theorem shift_sub_invSub_invShift (s : Block) : shiftRows (subBytes (invSubBytes (invShiftRows s))) = s := by
  rw [subBytes_invSubBytes, shiftRows_invShiftRows]

/-- An inverse round takes back a cipher round up to the substitution and shift that the next round starts with. -/
theorem invCipherRound_cipherRound (w : Schedule) (s : Block) (k : Nat) :
    invCipherRound w (shiftRows (subBytes (cipherRound w s k))) k = shiftRows (subBytes s) := by
  rw [invCipherRound, invSub_invShift_shift_sub, cipherRound, addRoundKey_addRoundKey, invMixColumns_mixColumns]

theorem cipherRound_invCipherRound (w : Schedule) (s : Block) (k : Nat) :
    cipherRound w (invSubBytes (invShiftRows (invCipherRound w s k))) k = invSubBytes (invShiftRows s) := by
  rw [cipherRound, shift_sub_invSub_invShift, invCipherRound, mixColumns_invMixColumns, addRoundKey_addRoundKey]

/-- Decryption inverts encryption (R150). -/
theorem invCipher_cipher (w : Schedule) (s : Block) : invCipher w (cipher w s) = s := by
  have hrounds := foldl_reverse_undoes (u := fun x => shiftRows (subBytes x)) (invCipherRound_cipherRound w)
    [1, 2, 3, 4, 5, 6, 7, 8, 9] (addRoundKey w s 0)
  simp only [List.reverse_cons, List.reverse_nil, List.nil_append, List.cons_append] at hrounds
  rw [invCipher, cipher, addRoundKey_addRoundKey, hrounds, invSub_invShift_shift_sub, addRoundKey_addRoundKey]

/-- Encryption inverts decryption (R150). -/
theorem cipher_invCipher (w : Schedule) (s : Block) : cipher w (invCipher w s) = s := by
  have hrounds := foldl_reverse_undoes (u := fun x => invSubBytes (invShiftRows x)) (cipherRound_invCipherRound w)
    [9, 8, 7, 6, 5, 4, 3, 2, 1] (addRoundKey w s 10)
  simp only [List.reverse_cons, List.reverse_nil, List.nil_append, List.cons_append] at hrounds
  rw [cipher, invCipher, addRoundKey_addRoundKey, hrounds, shift_sub_invSub_invShift, addRoundKey_addRoundKey]

end Sys2Proof.Machine
end

section
/-! PROOFS. How the key and block commands complete (spec/41_aes_key_and_block.md R145, R147, R149). -/

namespace Sys2Proof.Machine
open Sys2Proof Sys2Proof.Spec

section commands
variable {s : State}

theorem exec_keyexp (s : State) : exec (.keyexp 16) s = .next ((s.setSchedule (expandKey s.key)).setErr 0#4) := rfl

theorem exec_keyexp_badLength {klen : Nat} (h : klen ≠ 16) : exec (.keyexp klen) s = .next (s.setErr 0x2#4) := by
  simp only [exec, execKeyexp, if_pos h, complete_error, CmdError.code]

/-- Without a valid schedule neither block command passes its gate. -/
theorem exec_blockCommands_noKey (hkv : s.kv = false) :
    exec .encblk s = .next (s.setErr 0x3#4) ∧ exec .decblk s = .next (s.setErr 0x3#4) := by
  simp only [exec, execEncblk, execDecblk, if_pos hkv, complete_error, CmdError.code, and_self]

/-- A block command run after one that has put `x` into BLK works on `x`, under the same schedule. -/
theorem exec_blockCommands_setBlk (hkv : s.kv = true) (x : Block) (c : BitVec 4) :
    exec .encblk ((s.setBlk x).setErr c) = .next ((s.setBlk (cipher s.w x)).setErr 0#4) ∧
    exec .decblk ((s.setBlk x).setErr c) = .next ((s.setBlk (invCipher s.w x)).setErr 0#4) :=
  exec_blockCommands (s := (s.setBlk x).setErr c) hkv

end commands

end Sys2Proof.Machine
end

section
/-! PROOFS. The obligations of spec/41_aes_key_and_block.md. -/

namespace Sys2Proof.Machine
open Sys2Proof Sys2Proof.Spec

/-- Settles O31: the loop leaves the raw key words, and each later word is the next word of the finished schedule. -/
theorem scheduleRecurrence : Obligations.ScheduleRecurrence := by
  refine fun key => ⟨fun i j => getElem_expandKey_raw key i.isLt j.isLt, fun i h4 hi j => ?_⟩
  rw [getElem_expandKey key h4 hi, getElem_nextWord _ h4 hi j.isLt]

/-- Settles O32: the rounds of either direction take back those of the other, last one first. -/
theorem cipherRoundTrip : Obligations.CipherRoundTrip := fun w s => ⟨invCipher_cipher w s, cipher_invCipher w s⟩

/-- Settles O38: both commands keep W and KV, so the second runs under the schedule of the first. -/
theorem decblkUndoesEncblk : Obligations.DecblkUndoesEncblk := by
  intro s hkv
  obtain ⟨henc, hdec⟩ := exec_blockCommands hkv
  refine ⟨⟨_, henc, ?_⟩, ⟨_, hdec, ?_⟩⟩
  · rw [(exec_blockCommands_setBlk hkv _ _).2, invCipher_cipher, State.setBlk_setErr_eq]
  · rw [(exec_blockCommands_setBlk hkv _ _).1, cipher_invCipher, State.setBlk_setErr_eq]

/-- Settles O33: encryption by evaluation, decryption by the round trip. -/
theorem knownVector : Obligations.KnownVector := by
  unfold Obligations.KnownVector
  intro key plain ciph
  have henc : cipher (expandKey key) plain = ciph := by decide +kernel
  exact ⟨henc, henc ▸ invCipher_cipher (expandKey key) plain⟩

/-- Settles O36: KEYEXP completes with the schedule of KEY, or with the error for a length other than 16. -/
theorem keyexpCommand : Obligations.KeyexpCommand := fun s => ⟨exec_keyexp s, fun _ => exec_keyexp_badLength⟩

/-- Settles O37: with KV = 1 each command is its transform of BLK, with KV = 0 the gate answers. -/
theorem blockCommands : Obligations.BlockCommands := fun _ => ⟨exec_blockCommands, exec_blockCommands_noKey⟩

end Sys2Proof.Machine
end

section
/-! PROOFS. The arithmetic of key construction against its mathematical notions: trial division decides primality, the
inverse is the only one, the exponent is odd (spec/42_rsa_key_construction.md R171, R176, R178, R180). -/

namespace Sys2Proof.Machine
open Sys2Proof Sys2Proof.Spec

/-- On enough fuel, trial division from `d` on passes exactly where no number from `d` up to the root divides (R171). -/
theorem trialDivide_iff (n : Nat) : ∀ fuel d : Nat, n < d + fuel →
    (trialDivide fuel n d = true ↔ ∀ k, d ≤ k → k * k ≤ n → ¬ k ∣ n)
  | 0, d, hfuel => iff_of_true rfl fun k hdk hk => by have := Nat.le_mul_self k; omega
  | fuel + 1, d, hfuel => by
    rw [trialDivide]
    split_ifs with hd hdvd
    · exact iff_of_false nofun fun h => h d le_rfl hd (Nat.dvd_of_mod_eq_zero hdvd)
    · rw [trialDivide_iff n fuel (d + 1) (by omega)]
      refine ⟨fun h k hdk hk => ?_, fun h k hdk => h k (Nat.le_of_succ_le hdk)⟩
      obtain rfl | hlt := Nat.eq_or_lt_of_le hdk
      · rwa [Nat.dvd_iff_mod_eq_zero]
      · exact h k hlt hk
    · exact iff_of_true rfl fun k hdk hk => absurd ((Nat.mul_le_mul hdk hdk).trans hk) hd

/-- The inclusive bound makes isPrime true exactly for the primes (R171). -/
theorem isPrime_iff_prime (n : Nat) : isPrime n = true ↔ Nat.Prime n := by
  rw [isPrime, Nat.prime_def_le_sqrt]
  split_ifs with hn
  · exact iff_of_false nofun fun h => absurd h.1 (Nat.not_le.mpr hn)
  · simp only [trialDivide_iff n n 2 (by omega), Nat.le_sqrt, Nat.not_lt.mp hn, true_and]

theorem legalPrime_eq_true_iff (x : Nat) : legalPrime x = true ↔ LegalPrime x := by
  rw [legalPrime_iff, isPrime_iff_prime, LegalPrime, and_assoc]

/-- The candidate set of KEYGEN is empty exactly where no prime lies in the range (R180). -/
theorem primesIn_eq_nil_iff (lo hi : Nat) : primesIn lo hi = [] ↔ ¬ ∃ x, lo ≤ x ∧ x ≤ hi ∧ Nat.Prime x := by
  simp only [List.eq_nil_iff_forall_not_mem, mem_primesIn, isPrime_iff_prime, not_exists]

/-- A modulus of 2 or more has the inverse in [1, m - 1] (R176). -/
theorem modinvOf_mem_range (a m : Nat) (hm : 2 ≤ m) (h : Nat.gcd (a % m) m = 1) :
    1 ≤ modinvOf a m ∧ modinvOf a m ≤ m - 1 := by
  have hinv := mul_modinvOf_mod a m hm h
  have hlt := modinvOf_lt a m (by omega)
  have hne : modinvOf a m ≠ 0 := fun h0 => by simp [h0] at hinv
  omega

/-- A number has at most one inverse below the modulus: `x = x(ay) = (xa)y = y`. -/
theorem inverse_unique {a x y m : Nat} (hx : x < m) (hy : y < m) (hax : a * x % m = 1) (hay : a * y % m = 1) : x = y :=
  calc x = x * (a * y % m) % m := by rw [hay, Nat.mul_one, Nat.mod_eq_of_lt hx]
    _ = a * x % m * y % m := by rw [Nat.mul_mod_mod, Nat.mod_mul_mod, ← Nat.mul_assoc, Nat.mul_comm x a]
    _ = y := by rw [hax, Nat.one_mul, Nat.mod_eq_of_lt hy]

/-- An exponent coprime with an even number is odd (R178). -/
theorem chooseE_odd {r : Nat} (hr : 4 ≤ r) (heven : r % 2 = 0) : chooseE r % 2 = 1 := by
  obtain ⟨-, -, hcop, -⟩ := chooseE_spec r hr
  exact Nat.odd_iff.mp (Nat.Coprime.odd_of_right (Nat.Coprime.coprime_dvd_right (Nat.dvd_of_mod_eq_zero heven) hcop))

/-- The greatest common divisor of two registers fits a register, zero operands included (R170, R174). -/
theorem gcd_toNat_lt (a b : Word32) : Nat.gcd a.toNat b.toNat < 2 ^ 32 := by
  obtain h0 | hpos := Nat.eq_zero_or_pos b.toNat
  · rw [h0, Nat.gcd_zero_right]; exact a.isLt
  · exact (Nat.gcd_le_right _ hpos).trans_lt b.isLt

end Sys2Proof.Machine
end

section
/-! PROOFS. How the key-construction commands complete (spec/42_rsa_key_construction.md R173, R175, R177, R181, R182). -/

namespace Sys2Proof.Machine
open Sys2Proof Sys2Proof.Spec

theorem exists_word_of_lt {v : Nat} (hv : v < 2 ^ 32) : ∃ w : Word32, w.toNat = v :=
  ⟨BitVec.ofNat 32 v, by rw [BitVec.toNat_ofNat, Nat.mod_eq_of_lt hv]⟩

section commands
variable {s : State}

/-- A result below 2^32 reaches RR unchanged (R170). -/
theorem complete_setResult_of_lt (s : State) {v : Nat} (hv : v < 2 ^ 32) :
    ∃ r : Word32, s.complete (.ok (s.setResult v)) = .next { s with rr := r, err := 0#4 } ∧ r.toNat = v := by
  obtain ⟨r, rfl⟩ := exists_word_of_lt hv
  refine ⟨r, ?_, rfl⟩
  simp only [complete_ok, State.setResult, State.setErr, BitVec.ofNat_toNat, BitVec.setWidth_eq]

theorem exec_primetest (s : State) :
    exec .primetest s = .next { s with rr := if Nat.Prime s.ra.toNat then 1#32 else 0#32, err := 0#4 } := by
  simp only [exec, execPrimetest, State.opA, isPrime_iff_prime]
  split_ifs <;> rfl

theorem exec_gcd (s : State) : exec .gcd s = s.complete (.ok (s.setResult (Nat.gcd s.ra.toNat s.rb.toNat))) := by
  simp only [exec, execGcd, gcdOf_eq_gcd, State.opA, State.opB]

theorem exec_modinv_badModulus (h : s.rm.toNat < 2) : exec .modinv s = .next (s.setErr 0x5#4) := by
  simp only [exec, execModinv, State.opM, h, if_true, complete_error, CmdError.code]

theorem exec_modinv_notInvertible (hm : 2 ≤ s.rm.toNat) (h : Nat.gcd (s.ra.toNat % s.rm.toNat) s.rm.toNat ≠ 1) :
    exec .modinv s = .next (s.setErr 0x6#4) := by
  simp only [exec, execModinv, State.opA, State.opM, gcdOf_eq_gcd, if_neg (Nat.not_lt.mpr hm), if_pos h, complete_error,
    CmdError.code]

theorem exec_modinv (hm : 2 ≤ s.rm.toNat) (h : Nat.gcd (s.ra.toNat % s.rm.toNat) s.rm.toNat = 1) :
    exec .modinv s = s.complete (.ok (s.setResult (modinvOf s.ra.toNat s.rm.toNat))) := by
  simp only [exec, execModinv, State.opA, State.opM, gcdOf_eq_gcd, if_neg (Nat.not_lt.mpr hm), if_neg (not_not.mpr h)]

/-- The key of two legal primes, as the words the six registers then hold: none is cut (R179, R181, R182). -/
theorem setKeyMaterial_words (s : State) {p q : Word32} (hp : LegalPrime p.toNat) (hq : LegalPrime q.toNat) :
    ∃ n t e d : Word32,
      s.setKeyMaterial p.toNat q.toNat (deriveKey p.toNat q.toNat) =
        { s with p := p, q := q, n := n, t := t, e := e, d := d, pkv := true } ∧
      n.toNat = p.toNat * q.toNat ∧ t.toNat = (p.toNat - 1) * (q.toNat - 1) ∧
      e.toNat = chooseE t.toNat ∧ d.toNat = modinvOf e.toNat t.toNat := by
  have hlt : (deriveKey p.toNat q.toNat).n < 2 ^ 32 :=
    mul_legalPrimes_lt ((legalPrime_eq_true_iff _).mpr hp) ((legalPrime_eq_true_iff _).mpr hq)
  obtain ⟨hrn, -, her, -, -, hdr, -⟩ := deriveKey_spec p.toNat q.toNat hp.1 hq.1
  obtain ⟨n, hn⟩ := exists_word_of_lt hlt
  obtain ⟨t, ht⟩ : ∃ t : Word32, t.toNat = (deriveKey p.toNat q.toNat).r := exists_word_of_lt (by omega)
  obtain ⟨e, he⟩ : ∃ e : Word32, e.toNat = (deriveKey p.toNat q.toNat).e := exists_word_of_lt (by omega)
  obtain ⟨d, hd⟩ : ∃ d : Word32, d.toNat = (deriveKey p.toNat q.toNat).d := exists_word_of_lt (by omega)
  refine ⟨n, t, e, d, ?_, hn, ht, ?_, ?_⟩
  · simp only [State.setKeyMaterial, ← hn, ← ht, ← he, ← hd, BitVec.ofNat_toNat, BitVec.setWidth_eq]
  · rw [he, ht]; rfl
  · rw [hd, he, ht]; rfl

theorem exec_keyload_illegal (h : ¬ (LegalPrime s.ra.toNat ∧ LegalPrime s.rb.toNat)) :
    exec .keyload s = .next (s.setErr 0x7#4) := by
  rw [← legalPrime_eq_true_iff, ← legalPrime_eq_true_iff, ← Bool.and_eq_true, Bool.not_eq_true] at h
  simp only [exec, execKeyload, State.opA, State.opB, h, if_true, complete_error, CmdError.code]

theorem exec_keyload (ha : LegalPrime s.ra.toNat) (hb : LegalPrime s.rb.toNat) : exec .keyload s =
    .next ((s.setKeyMaterial s.ra.toNat s.rb.toNat (deriveKey s.ra.toNat s.rb.toNat)).setErr 0#4) := by
  rw [← legalPrime_eq_true_iff] at ha hb
  simp [exec, execKeyload, State.opA, State.opB, ha, hb]

theorem exec_keygen_noPrime (h : primesIn s.plo.toNat s.phi.toNat = []) : exec .keygen s = .next (s.setErr 0x7#4) := by
  simp only [exec, execKeygen, h, List.isEmpty_nil, if_true, complete_error, CmdError.code]

/-- Where it has candidates, KEYGEN loads the key of two of them (R181). -/
theorem exec_keygen (h : primesIn s.plo.toNat s.phi.toNat ≠ []) :
    ∃ p ∈ primesIn s.plo.toNat s.phi.toNat, ∃ q ∈ primesIn s.plo.toNat s.phi.toNat,
      exec .keygen s = .next (((s.setKeyMaterial p q (deriveKey p q)).advanceDraws 2).setErr 0#4) := by
  refine ⟨_, draw_mem _ s.draws h, _, draw_mem _ (s.draws + 1) h, ?_⟩
  simp only [exec, execKeygen, List.isEmpty_iff, if_neg h, complete_ok]

/-- A candidate of KEYGEN is a prime of the range and, under legal bounds, a legal prime that fits a register (R180). -/
theorem word_of_mem_primesIn (hr : s.RangeLegal) {p : Nat} (hp : p ∈ primesIn s.plo.toNat s.phi.toNat) :
    ∃ a : Word32, a.toNat = p ∧ LegalPrime p ∧ s.plo.toNat ≤ p ∧ p ≤ s.phi.toNat ∧ Nat.Prime p := by
  have hlegal := (legalPrime_eq_true_iff p).mp (legalPrime_of_mem_primesIn hr hp)
  obtain ⟨hlo, hhi, hprime⟩ := (mem_primesIn _ _ _).mp hp
  obtain ⟨a, ha⟩ := exists_word_of_lt (hhi.trans_lt s.phi.isLt)
  exact ⟨a, ha, hlegal, hlo, hhi, (isPrime_iff_prime p).mp hprime⟩

end commands

end Sys2Proof.Machine
end

section
/-! PROOFS. The obligations of spec/42_rsa_key_construction.md. -/

namespace Sys2Proof.Machine
open Sys2Proof Sys2Proof.Spec

/-- Settles O40: trial division decides primality, and PRIMETEST writes its answer. -/
theorem primetestDecidesPrimality : Obligations.PrimetestDecidesPrimality := by
  refine ⟨isPrime_iff_prime, fun s => ⟨fun h => ?_, fun h => ?_⟩⟩
  · rw [exec_primetest, if_pos h]
  · rw [exec_primetest, if_neg h]

/-- Settles O41: Euclid's loop has the fuel it needs, and its result fits RR. -/
theorem gcdCommandComputesGcd : Obligations.GcdCommandComputesGcd :=
  ⟨gcdOf_eq_gcd, fun s => exec_gcd s ▸ complete_setResult_of_lt s (gcd_toNat_lt s.ra s.rb)⟩

/-- Settles O42: the coefficient of the extended loop is an inverse, and there is no other. -/
theorem modinvIsTheUniqueInverse : Obligations.ModinvIsTheUniqueInverse := by
  intro a m hm hcop
  obtain ⟨hlo, hhi⟩ := modinvOf_mem_range a m hm hcop
  have hinv := mul_modinvOf_mod a m hm hcop
  exact ⟨⟨hlo, hhi, hinv⟩, fun x _ hx hax => inverse_unique (by omega) (by omega) hax hinv⟩

/-- Settles O43: the two checks in their order, then the inverse, which fits RR as RM does. -/
theorem modinvCommand : Obligations.ModinvCommand := by
  refine fun s => ⟨exec_modinv_badModulus, exec_modinv_notInvertible, fun hm hcop => ?_⟩
  obtain ⟨hlo, hhi⟩ := modinvOf_mem_range s.ra.toNat s.rm.toNat hm hcop
  have hlt := modinvOf_lt s.ra.toNat s.rm.toNat (by omega)
  obtain ⟨r, hexec, hr⟩ := complete_setResult_of_lt s (hlt.trans s.rm.isLt)
  refine ⟨r, (exec_modinv hm hcop).trans hexec, ?_⟩
  rw [hr]
  exact ⟨hlo, hlt, mul_modinvOf_mod _ _ hm hcop⟩

/-- Settles O46: the search meets r - 1 at the latest. -/
theorem chooseEIsLeastCoprime : Obligations.ChooseEIsLeastCoprime := by
  intro r hr
  obtain ⟨h3, hle, hcop, hmin⟩ := chooseE_spec r hr
  exact ⟨h3, hle, hcop, hmin, chooseE_odd hr⟩

/-- Settles O47: the invariant needs of the primes only that they are 3 or more, and the bound on n only that they are 65535
or less. -/
theorem deriveKeyMeetsInvariant : Obligations.DeriveKeyMeetsInvariant := by
  rintro p q ⟨hp3, hpmax, -⟩ ⟨hq3, hqmax, -⟩
  obtain ⟨hrn, he3, her, hcop, hd1, hdr, hinv⟩ := deriveKey_spec p q hp3 hq3
  exact ⟨rfl, rfl, rfl, rfl, Nat.mul_le_mul hpmax hqmax, hrn, by omega, by omega, hinv, hcop⟩

/-- Settles O48: the operands decide, and their key fits the registers. -/
theorem keyloadCommand : Obligations.KeyloadCommand := by
  refine fun s => ⟨fun ⟨ha, hb⟩ => ?_, exec_keyload_illegal⟩
  obtain ⟨n, t, e, d, hkey, hwords⟩ := setKeyMaterial_words s ha hb
  exact ⟨n, t, e, d, by rw [exec_keyload ha hb, hkey]; rfl, hwords⟩

/-- Settles O49: an empty candidate set is the failure, and else both draws are candidates. -/
theorem keygenCommand : Obligations.KeygenCommand := by
  refine fun s => ⟨fun h => exec_keygen_noPrime ((primesIn_eq_nil_iff _ _).mpr h), fun hex hr => ?_⟩
  obtain ⟨_, hp, _, hq, hexec⟩ := exec_keygen (mt (primesIn_eq_nil_iff _ _).mp (not_not.mpr hex))
  obtain ⟨p, rfl, hpLegal, hpRange⟩ := word_of_mem_primesIn hr hp
  obtain ⟨q, rfl, hqLegal, hqRange⟩ := word_of_mem_primesIn hr hq
  obtain ⟨n, t, e, d, hkey, hwords⟩ := setKeyMaterial_words s hpLegal hqLegal
  exact ⟨p, q, n, t, e, d, by rw [hexec, hkey]; rfl, hpRange, hqRange, hwords⟩

end Sys2Proof.Machine
end

section
/-! PROOFS. Modular powers: the square-and-multiply loop computes them, and an encryption exponent undoes the decryption
exponent modulo two different primes (spec/43_rsa_operations.md R200, R201, R208). -/

namespace Sys2Proof.Machine
open Sys2Proof Sys2Proof.Spec

/-- One round of R200 keeps `acc * base ^ x` modulo `m`: the low bit of `x` goes into `acc`, the rest onto the square. -/
theorem modexpRound_modEq (acc base x m : Nat) :
    (if x % 2 = 1 then acc * base % m else acc) * (base * base % m) ^ (x / 2) ≡ acc * base ^ x [MOD m] := by
  have hsquare : (base * base % m) ^ (x / 2) ≡ base ^ (2 * (x / 2)) [MOD m] := by
    rw [pow_mul, sq]
    exact (Nat.mod_modEq _ m).pow _
  split_ifs with hodd
  · have hx : base ^ x = base * base ^ (2 * (x / 2)) := by rw [← pow_succ']; congr 1; omega
    rw [hx, ← mul_assoc]
    exact (Nat.mod_modEq _ m).mul hsquare
  · have hx : 2 * (x / 2) = x := by omega
    rw [hx] at hsquare
    exact hsquare.mul_left acc

/-- The loop multiplies its accumulator by the power, reduced (R201): halving `x` ends it within `x` rounds. -/
theorem modexpLoop_eq (m : Nat) : ∀ fuel acc base x : Nat, x ≤ fuel → acc < m →
    modexpLoop fuel acc base x m = acc * base ^ x % m
  | 0, acc, base, x, hx, hacc => by
    rw [Nat.le_zero.mp hx, modexpLoop, pow_zero, mul_one, Nat.mod_eq_of_lt hacc]
  | fuel + 1, acc, base, x, hx, hacc => by
    by_cases h0 : x = 0
    · rw [modexpLoop, if_pos h0, h0, pow_zero, mul_one, Nat.mod_eq_of_lt hacc]
    · have hnext : (if x % 2 = 1 then acc * base % m else acc) < m := by
        split_ifs
        · exact Nat.mod_lt _ (by omega)
        · exact hacc
      rw [modexpLoop, if_neg h0, modexpLoop_eq m fuel _ _ _ (by omega) hnext]
      exact modexpRound_modEq acc base x m

/-- modexp is the power, reduced (R201). -/
theorem modexpOf_eq_pow_mod (b x : Nat) {m : Nat} (hm : 2 ≤ m) : modexpOf b x m = b ^ x % m := by
  rw [modexpOf, modexpLoop_eq m x 1 _ x le_rfl hm, one_mul, ← Nat.pow_mod]

/-- Fermat's little theorem in the form R208 uses, for the multiples of the prime too. -/
theorem pow_pred_mul_succ_modEq {p : Nat} (hp : Nat.Prime p) (a k : Nat) : a ^ ((p - 1) * k + 1) ≡ a [MOD p] := by
  by_cases hdvd : p ∣ a
  · have ha : a ≡ 0 [MOD p] := Nat.modEq_zero_iff_dvd.mpr hdvd
    exact (Nat.modEq_zero_iff_dvd.mpr (dvd_pow hdvd (Nat.succ_ne_zero _))).trans ha.symm
  · have hcop : Nat.Coprime a p := ((Nat.Prime.coprime_iff_not_dvd hp).mpr hdvd).symm
    have hone : a ^ (p - 1) ≡ 1 [MOD p] := Nat.totient_prime hp ▸ Nat.ModEq.pow_totient hcop
    simpa only [pow_succ, pow_mul, one_pow, one_mul] using (hone.pow k).mul_right a

/-- For two different primes the congruences of both join to one modulo the product (R208). -/
theorem pow_totient_mul_succ_modEq {p q : Nat} (hp : Nat.Prime p) (hq : Nat.Prime q) (hne : p ≠ q) (a k : Nat) :
    a ^ ((p - 1) * (q - 1) * k + 1) ≡ a [MOD p * q] := by
  refine (Nat.modEq_and_modEq_iff_modEq_mul ((Nat.coprime_primes hp hq).mpr hne)).mp ⟨?_, ?_⟩
  · rw [mul_assoc]
    exact pow_pred_mul_succ_modEq hp a _
  · rw [mul_comm (p - 1), mul_assoc]
    exact pow_pred_mul_succ_modEq hq a _

/-- Exponents that are inverse modulo the totient undo each other on the numbers below the modulus (R208). -/
theorem pow_mod_pow_mod_eq_self {p q e d a : Nat} (hp : Nat.Prime p) (hq : Nat.Prime q) (hne : p ≠ q)
    (hed : e * d % ((p - 1) * (q - 1)) = 1) (ha : a < p * q) : (a ^ e % (p * q)) ^ d % (p * q) = a := by
  have hexp : (p - 1) * (q - 1) * (e * d / ((p - 1) * (q - 1))) + 1 = e * d := by
    simpa only [hed] using Nat.div_add_mod (e * d) ((p - 1) * (q - 1))
  have hmod := pow_totient_mul_succ_modEq hp hq hne a (e * d / ((p - 1) * (q - 1)))
  rw [hexp] at hmod
  rw [← Nat.pow_mod, ← pow_mul]
  exact Nat.mod_eq_of_modEq hmod ha

end Sys2Proof.Machine
end

section
/-! PROOFS. How the modular commands and those on the key material complete (spec/43_rsa_operations.md R202, R203, R205 to
R208). -/

namespace Sys2Proof.Machine
open Sys2Proof Sys2Proof.Spec

section commands
variable {s : State}

/-- A result reduced modulo the content of a register fits RR (R170). -/
theorem complete_setResult_mod (s : State) (v : Nat) {m : Word32} (hm : 2 ≤ m.toNat) :
    ∃ r : Word32, s.complete (.ok (s.setResult (v % m.toNat))) = .next { s with rr := r, err := 0#4 } ∧
      r.toNat = v % m.toNat :=
  complete_setResult_of_lt s ((Nat.mod_lt v (by omega)).trans m.isLt)

theorem exec_modularCommands_badModulus (h : s.rm.toNat < 2) :
    exec .modmul s = .next (s.setErr 0x5#4) ∧ exec .modexp s = .next (s.setErr 0x5#4) := by
  simp only [exec, execModmul, execModexp, State.opM, h, if_true, complete_error, CmdError.code, and_self]

/-- With a legal modulus MODMUL writes the product reduced (R203). -/
theorem exec_modmul (hm : 2 ≤ s.rm.toNat) : ∃ r : Word32,
    exec .modmul s = .next { s with rr := r, err := 0#4 } ∧ r.toNat = s.ra.toNat * s.rb.toNat % s.rm.toNat := by
  simpa only [exec, execModmul, State.opA, State.opB, State.opM, Nat.not_lt.mpr hm, if_false]
    using complete_setResult_mod s _ hm

/-- With a legal modulus MODEXP writes the power reduced (R202). -/
theorem exec_modexp (hm : 2 ≤ s.rm.toNat) : ∃ r : Word32,
    exec .modexp s = .next { s with rr := r, err := 0#4 } ∧ r.toNat = s.ra.toNat ^ s.rb.toNat % s.rm.toNat := by
  simpa only [exec, execModexp, State.opA, State.opB, State.opM, Nat.not_lt.mpr hm, if_false, modexpOf_eq_pow_mod _ _ hm]
    using complete_setResult_mod s _ hm

/-- Without valid key material none of the three commands passes its gate (R205 to R207). -/
theorem exec_keyMaterialCommands_noPublicKey (hk : s.pkv = false) :
    exec .encint s = .next (s.setErr 0x8#4) ∧ exec .decint s = .next (s.setErr 0x8#4) ∧
    exec .decbyte s = .next (s.setErr 0x8#4) := by
  simp only [exec, execEncint, execDecint, execDecbyte, if_pos hk, complete_error, CmdError.code, and_self]

section keyMaterial
variable (hk : s.pkv = true) (hn : 2 ≤ s.n.toNat)
include hk hn

/-- With valid key material ENCINT writes the power by E, reduced (R205). -/
theorem exec_encint : ∃ r : Word32,
    exec .encint s = .next { s with rr := r, err := 0#4 } ∧ r.toNat = s.ra.toNat ^ s.e.toNat % s.n.toNat := by
  simpa only [exec, execEncint, State.opA, hk, Bool.true_eq_false, if_false, modexpOf_eq_pow_mod _ _ hn]
    using complete_setResult_mod s _ hn

/-- With valid key material DECINT writes the power by D, reduced (R206). -/
theorem exec_decint : ∃ r : Word32,
    exec .decint s = .next { s with rr := r, err := 0#4 } ∧ r.toNat = s.ra.toNat ^ s.d.toNat % s.n.toNat := by
  simpa only [exec, execDecint, State.opA, hk, Bool.true_eq_false, if_false, modexpOf_eq_pow_mod _ _ hn]
    using complete_setResult_mod s _ hn

theorem exec_decbyte_outOfRange (h : s.ra.toNat ^ s.d.toNat % s.n.toNat > 255) :
    exec .decbyte s = .next (s.setErr 0x9#4) := by
  simp only [exec, execDecbyte, State.opA, hk, Bool.true_eq_false, if_false, modexpOf_eq_pow_mod _ _ hn, if_pos h,
    complete_error, CmdError.code]

/-- Within its range DECBYTE is DECINT (R207). -/
theorem exec_decbyte_eq_decint (h : s.ra.toNat ^ s.d.toNat % s.n.toNat ≤ 255) : exec .decbyte s = exec .decint s := by
  simp only [exec, execDecbyte, execDecint, State.opA, hk, Bool.true_eq_false, if_false, modexpOf_eq_pow_mod _ _ hn,
    if_neg (Nat.not_lt.mpr h)]

end keyMaterial

end commands

/-- Valid key material has a modulus the power is defined for (R37). -/
theorem State.KeyMaterialValid.two_le_n {s : State} (h : s.KeyMaterialValid) : 2 ≤ s.n.toNat := by
  obtain ⟨hp, hq, hn, -⟩ := h
  calc 2 ≤ 3 * 3 := by decide
    _ ≤ s.p.toNat * s.q.toNat := Nat.mul_le_mul (legalPrime_bounds hp).1 (legalPrime_bounds hq).1
    _ = s.n.toNat := hn.symm

/-- The power by D of the power by E is the number, where P and Q differ (R208). -/
theorem State.KeyMaterialValid.decrypt_encrypt {s : State} (h : s.KeyMaterialValid) (hpq : s.p ≠ s.q) {a : Nat}
    (ha : a < s.n.toNat) : (a ^ s.e.toNat % s.n.toNat) ^ s.d.toNat % s.n.toNat = a := by
  obtain ⟨hp, hq, hn, ht, -, -, -, -, -, hed⟩ := h
  obtain ⟨-, hp⟩ := (legalPrime_iff _).mp hp
  obtain ⟨-, hq⟩ := (legalPrime_iff _).mp hq
  rw [ht] at hed
  rw [hn] at ha ⊢
  exact pow_mod_pow_mod_eq_self ((isPrime_iff_prime _).mp hp) ((isPrime_iff_prime _).mp hq)
    (fun heq => hpq (BitVec.eq_of_toNat_eq heq)) hed ha

end Sys2Proof.Machine
end

section
/-! PROOFS. The obligations of spec/43_rsa_operations.md. -/

namespace Sys2Proof.Machine
open Sys2Proof Sys2Proof.Spec

/-- Settles O44: the loop's invariant is the accumulator times the power still to come. -/
theorem modexpIsThePower : Obligations.ModexpIsThePower := by
  intro b x m hm
  rw [modexpOf_eq_pow_mod b x hm]
  exact ⟨rfl, Nat.mod_lt _ (by omega)⟩

/-- Settles O45: the check on RM, then results that fit RR as RM does. -/
theorem modularCommands : Obligations.ModularCommands :=
  fun _ => ⟨exec_modularCommands_badModulus, fun hm => ⟨exec_modmul hm, exec_modexp hm⟩⟩

/-- Settles O50: the gate, then powers that fit RR as N does. -/
theorem keyMaterialCommands : Obligations.KeyMaterialCommands := by
  refine fun s => ⟨fun hk => ?_, fun hk hn => ⟨exec_encint hk hn, exec_decint hk hn⟩⟩
  obtain ⟨henc, hdec, -⟩ := exec_keyMaterialCommands_noPublicKey hk
  exact ⟨henc, hdec⟩

/-- Settles O51: the gate, the range check, and else what DECINT does. -/
theorem decbyteCommand : Obligations.DecbyteCommand := by
  refine fun s => ⟨fun hk => ?_, exec_decbyte_outOfRange, fun hk hn hle => ?_⟩
  · obtain ⟨-, -, hbyte⟩ := exec_keyMaterialCommands_noPublicKey hk
    exact hbyte
  · rw [exec_decbyte_eq_decint hk hn hle]
    exact exec_decint hk hn

/-- Settles O52: DECINT's power of ENCINT's is the number, and DECBYTE is DECINT where the number is a byte. -/
theorem rsaRoundTrip : Obligations.RsaRoundTrip := by
  intro s hk hvalid hpq ha
  have hn := hvalid.two_le_n
  obtain ⟨c, henc, hc⟩ := exec_encint hk hn
  have hback : c.toNat ^ s.d.toNat % s.n.toNat = s.ra.toNat := hc ▸ hvalid.decrypt_encrypt hpq ha
  obtain ⟨r, hdec, hr⟩ := exec_decint (s := { s with ra := c, rr := c, err := 0#4 }) hk hn
  obtain rfl : r = s.ra := BitVec.eq_of_toNat_eq (hr.trans hback)
  refine ⟨_, henc, hdec, fun hbyte => ?_⟩
  have hrange : c.toNat ^ s.d.toNat % s.n.toNat ≤ 255 := hback.trans_le hbyte
  exact (exec_decbyte_eq_decint (s := { s with ra := c, rr := c, err := 0#4 }) hk hn hrange).trans hdec

end Sys2Proof.Machine
end

section
/-! PROOFS. The host driver's accesses to the core: a register write, an issued command, a block loaded and read back
(spec/45_host_procedures.md R230; spec/30_encoding.md R91). -/

namespace Sys2Proof.Machine
open Sys2Proof Sys2Proof.Spec

@[simp] theorem DriverResult.andThen_ok {α β : Type} (s : State) (a : α) (f : State → α → DriverResult β) :
    (DriverResult.ok s a).andThen f = f s a := rfl

/-- The driver's write of a named register other than CMD writes that register. -/
theorem hostWrite_offset (s : State) (r : Reg) (v : Word32) (h : r ≠ .cmd) :
    hostWrite r.offset v s = .ok (s.writeReg r v) () := by
  simp only [hostWrite, busWrite_offset s r v h]

/-- The driver finds STATUS.ERR at bits 7:4 of STATUS (R23). -/
@[simp] theorem hostReadErr_eq (s : State) : hostReadErr s = s.err := by
  have hbits : ∀ (err : BitVec 4) (pkv kv : Bool),
      (0#24 ++ err ++ 0#2 ++ BitVec.ofBool pkv ++ BitVec.ofBool kv).extractLsb' 4 4 = err := by decide
  have hstatus : busRead s 0x004 = s.status := busRead_offset s .status
  rw [hostReadErr, hstatus]
  exact hbits s.err s.pkv s.kv

section issue
variable {s t : State} {i : Instr} (hwf : i.wellFormed = true) (h : exec i s = .next t)
include hwf h

theorem hostWrite_cmd : hostWrite 0x008 (encode i) s = .ok t () := by
  simp only [hostWrite, busWrite_cmd, execute_of_decode s (decode_encode hwf), h]

theorem hostIssue_ok (herr : t.err = 0#4) : hostIssue i s = .ok t () := by
  simp only [hostIssue, hostWrite_cmd hwf h, DriverResult.andThen_ok, hostReadErr_eq, if_pos herr]

theorem hostIssue_error (herr : t.err ≠ 0#4) : hostIssue i s = .error t (hostErrorOf t.err) := by
  simp only [hostIssue, hostWrite_cmd hwf h, DriverResult.andThen_ok, hostReadErr_eq, if_neg herr]

end issue

/-- Each lane of a block word is the byte it was made of (R53). -/
theorem laneOf_blockWord (x : Block) (k : Fin 4) {j : Nat} (hj : j < 4) : laneOf (blockWord x k) j = x[4 * k.val + j] := by
  obtain ⟨h0, h1, h2, h3⟩ := laneOf_wordOfLanes x[4 * k.val] x[4 * k.val + 1] x[4 * k.val + 2] x[4 * k.val + 3]
  match j, hj with
  | 0, _ => exact h0
  | 1, _ => exact h1
  | 2, _ => exact h2
  | 3, _ => exact h3

/-- Byte i of a block stands in lane i % 4 of its word i / 4 (R53). -/
theorem laneOf_blockWord_div_mod (x : Block) {i : Nat} (hi : i < 16) {k : Fin 4} (hk : i / 4 = k.val) :
    laneOf (blockWord x k) (i % 4) = x[i] := by
  simp only [laneOf_blockWord x k (Nat.mod_lt i (by decide)), ← hk, Nat.div_add_mod]

/-- The four words of `x`, written over any 16 bytes, leave `x`. -/
theorem setBlockWord_blockWords (x y : Block) :
    setBlockWord (setBlockWord (setBlockWord (setBlockWord y 0 (blockWord x 0)) 1 (blockWord x 1)) 2 (blockWord x 2)) 3
      (blockWord x 3) = x := by
  refine Vector.ext fun i hi => ?_
  simp only [getElem_setBlockWord]
  split_ifs with h3 h2 h1 h0
  · exact laneOf_blockWord_div_mod x hi h3
  · exact laneOf_blockWord_div_mod x hi h2
  · exact laneOf_blockWord_div_mod x hi h1
  · exact laneOf_blockWord_div_mod x hi h0
  · simp only [Fin.isValue, Fin.val_zero, Fin.val_one, Fin.val_two] at *
    omega

/-- Four word writes at `off` write the group of registers that stands there. -/
theorem hostLoad_group (s : State) (x : Block) {off : Nat} {r : Fin 4 → Reg} (hcmd : ∀ k, r k ≠ .cmd)
    (hoff : ∀ k, (r k).offset = off + 4 * k.val) : hostLoad off x s =
      .ok ((((s.writeReg (r 0) (blockWord x 0)).writeReg (r 1) (blockWord x 1)).writeReg (r 2) (blockWord x 2)).writeReg
        (r 3) (blockWord x 3)) () := by
  have hwrite (k : Fin 4) (v : Word32) (t : State) : hostWrite (off + 4 * k.val) v t = .ok (t.writeReg (r k) v) () :=
    hoff k ▸ hostWrite_offset t (r k) v (hcmd k)
  change ((hostWrite (off + 4 * (0 : Fin 4).val) (blockWord x 0) s).andThen fun s _ =>
    (hostWrite (off + 4 * (1 : Fin 4).val) (blockWord x 1) s).andThen fun s _ =>
      (hostWrite (off + 4 * (2 : Fin 4).val) (blockWord x 2) s).andThen fun s _ =>
        hostWrite (off + 4 * (3 : Fin 4).val) (blockWord x 3) s) = _
  simp only [hwrite, DriverResult.andThen_ok]

/-- LOADKEY: KEY takes the block, and KV is cleared (R27, R91). -/
theorem hostLoad_key (s : State) (x : Block) : hostLoad 0x010 x s = .ok { s with key := x, kv := false } () := by
  rw [hostLoad_group s x (r := Reg.key) (fun _ => Reg.noConfusion) fun _ => rfl]
  simp only [State.writeReg, setBlockWord_blockWords]

/-- LOADBLK: BLK takes the block (R91). -/
theorem hostLoad_blk (s : State) (x : Block) : hostLoad 0x020 x s = .ok (s.setBlk x) () := by
  rw [hostLoad_group s x (r := Reg.blk) (fun _ => Reg.noConfusion) fun _ => rfl]
  simp only [State.writeReg, setBlockWord_blockWords, State.setBlk]

/-- READBLK gives BLK (R91). -/
theorem hostReadBlk_eq (s : State) : hostReadBlk s = s.blk := by
  refine Vector.ext fun i hi => ?_
  have hread : busRead s (0x020 + 4 * (i / 4)) = blockWord s.blk ⟨i / 4, by omega⟩ :=
    busRead_offset s (.blk ⟨i / 4, by omega⟩)
  simp only [hostReadBlk, Vector.getElem_ofFn, hread, laneOf_blockWord_div_mod s.blk hi]

/-- The driver reads back the six key-material registers (R236). -/
theorem hostReadKeys_eq (s : State) : hostReadKeys s = ⟨s.p, s.q, s.n, s.t, s.e, s.d⟩ := by
  have hread := busRead_offset s
  simp only [hostReadKeys, KeyReport.mk.injEq]
  exact ⟨hread .p, hread .q, hread .n, hread .t, hread .e, hread .d⟩

end Sys2Proof.Machine
end

section
/-! PROOFS. Byte strings as blocks, and the padding (spec/45_host_procedures.md R232 to R235). -/

namespace Sys2Proof.Machine
open Sys2Proof Sys2Proof.Spec

/-- The byte string of the blocks `g 0` to `g (n - 1)`, one after another. -/
def joinBlocks (g : Nat → Block) (n : Nat) : List Byte := (List.range n).flatMap fun k => (g k).toList

theorem joinBlocks_succ (g : Nat → Block) (n : Nat) : joinBlocks g (n + 1) = joinBlocks g n ++ (g n).toList := by
  simp [joinBlocks, List.range_succ]

@[simp] theorem length_joinBlocks (g : Nat → Block) (n : Nat) : (joinBlocks g n).length = 16 * n := by
  simp [joinBlocks, Nat.mul_comm]

/-- Byte i of the joined blocks is byte i % 16 of block i / 16. -/
theorem getElem_joinBlocks (g : Nat → Block) : ∀ (n : Nat) {i : Nat} (h : i < (joinBlocks g n).length),
    (joinBlocks g n)[i] = (g (i / 16))[i % 16]
  | 0, i, h => absurd h (Nat.not_lt_zero i)
  | n + 1, i, h => by
    simp only [joinBlocks_succ, List.getElem_append, length_joinBlocks]
    split
    next => exact getElem_joinBlocks g n _
    next hge =>
      obtain ⟨j, rfl⟩ := Nat.exists_eq_add_of_le (Nat.not_lt.mp hge)
      rw [length_joinBlocks] at h
      have hdiv : (16 * n + j) / 16 = n := by omega
      have hmod : (16 * n + j) % 16 = j := by omega
      simp only [Nat.add_sub_cancel_left, hdiv, hmod, Vector.getElem_toList]

/-- Block k of the joined blocks is the k-th of them. -/
theorem blockAt_joinBlocks (g : Nat → Block) {n k : Nat} (hk : k < n) : blockAt (joinBlocks g n) k = g k := by
  refine Vector.ext fun j hj => ?_
  have hlt : 16 * k + j < (joinBlocks g n).length := by rw [length_joinBlocks]; omega
  have hdiv : (16 * k + j) / 16 = k := by omega
  have hmod : (16 * k + j) % 16 = j := by omega
  simp only [blockAt, Vector.getElem_ofFn, List.getD_eq_getElem _ _ hlt, getElem_joinBlocks, hdiv, hmod]

/-- A string of whole blocks is its blocks, joined. -/
theorem joinBlocks_blockAt {x : List Byte} {n : Nat} (h : x.length = 16 * n) : joinBlocks (blockAt x) n = x := by
  refine List.ext_getElem (by rw [length_joinBlocks, h]) fun i _ hi => ?_
  simp only [getElem_joinBlocks, blockAt, Vector.getElem_ofFn, Nat.div_add_mod, List.getD_eq_getElem _ _ hi]

/-- Where `g` undoes `f`, `g` of each block of the string of `f`'s results gives the string back. -/
theorem joinBlocks_undo {f g : Block → Block} (hgf : ∀ b, g (f b) = b) {x : List Byte} {n : Nat}
    (h : x.length = 16 * n) :
    joinBlocks (fun k => g (blockAt (joinBlocks (fun k => f (blockAt x k)) n) k)) n = x :=
  calc joinBlocks (fun k => g (blockAt (joinBlocks (fun k => f (blockAt x k)) n) k)) n
      = joinBlocks (blockAt x) n := List.flatMap_congr fun k hk => by
        simp only [blockAt_joinBlocks _ (List.mem_range.mp hk), hgf]
    _ = x := joinBlocks_blockAt h

/-- The last byte decides, whatever the others are (R234). -/
theorem unpadMessage_append_singleton (x : List Byte) (pl : Byte) : unpadMessage (x ++ [pl]) =
    if pl.toNat > x.length + 1 then .error .hostUnpadOverrun
    else .ok ((x ++ [pl]).take (x.length + 1 - pl.toNat)) := by
  simp only [unpadMessage, List.getLast?_concat, List.length_append, List.length_singleton]

theorem padLength_bounds (len : Nat) : 1 ≤ padLength len ∧ padLength len ≤ 16 := by
  unfold padLength
  omega

theorem length_padMessage (x : List Byte) : (padMessage x).length = x.length + padLength x.length := by
  simp [padMessage]

/-- The padded length is a multiple of 16 (R232). -/
theorem length_padMessage_eq_mul (x : List Byte) : (padMessage x).length = 16 * ((padMessage x).length / 16) := by
  rw [length_padMessage, padLength]
  omega

theorem unpadMessage_append_replicate (x : List Byte) {n : Nat} (h1 : 1 ≤ n) (hn : n < 256) :
    unpadMessage (x ++ List.replicate n (BitVec.ofNat 8 n)) = .ok x := by
  obtain ⟨m, rfl⟩ := Nat.exists_eq_add_of_le' h1
  have hval : (BitVec.ofNat 8 (m + 1)).toNat = m + 1 := by rw [BitVec.toNat_ofNat, Nat.mod_eq_of_lt hn]
  have hlen : (x ++ List.replicate m (BitVec.ofNat 8 (m + 1))).length + 1 = x.length + (m + 1) := by simp; omega
  rw [List.replicate_succ', ← List.append_assoc, unpadMessage_append_singleton, hval, hlen, if_neg (by omega),
    Nat.add_sub_cancel, List.append_assoc, List.take_left]

/-- unpad takes off what pad has put on (R234). -/
theorem unpadMessage_padMessage (x : List Byte) : unpadMessage (padMessage x) = .ok x := by
  obtain ⟨h1, h16⟩ := padLength_bounds x.length
  exact unpadMessage_append_replicate x h1 (by omega)

end Sys2Proof.Machine
end

section
/-! PROOFS. Messages, block by block through the core (spec/45_host_procedures.md R233, R235, R240). -/

namespace Sys2Proof.Machine
open Sys2Proof Sys2Proof.Spec

/-- A block command that, from the schedule of `s` and any block, completes with `f` of the block in BLK. -/
def TransformsBlk (s : State) (i : Instr) (f : Block → Block) : Prop :=
  i.wellFormed = true ∧ ∀ (b : Block) (c : BitVec 4),
    exec i ((s.setBlk b).setErr c) = .next ((s.setBlk (f b)).setErr 0#4)

theorem encblk_transformsBlk {s : State} (hkv : s.kv = true) : TransformsBlk s .encblk (cipher s.w) :=
  ⟨rfl, fun b c => (exec_blockCommands_setBlk hkv b c).1⟩

theorem decblk_transformsBlk {s : State} (hkv : s.kv = true) : TransformsBlk s .decblk (invCipher s.w) :=
  ⟨rfl, fun b c => (exec_blockCommands_setBlk hkv b c).2⟩

/-- The loop of R233 and R235 puts out `f` of each block, and leaves the core changed in BLK and ERR at most. -/
theorem blockLoop_eq {s : State} {i : Instr} {f : Block → Block} (hi : TransformsBlk s i f) (x : List Byte) (ks : List Nat) :
    ∀ (b : Block) (c : BitVec 4) (out : List Byte), ∃ (b' : Block) (c' : BitVec 4),
      blockLoop i x ks ((s.setBlk b).setErr c) out =
        .ok ((s.setBlk b').setErr c') (out ++ ks.flatMap fun k => (f (blockAt x k)).toList) := by
  induction ks with
  | nil => exact fun b c out => ⟨b, c, by simp [blockLoop]⟩
  | cons k ks ih =>
    intro b c out
    obtain ⟨hwf, hexec⟩ := hi
    obtain ⟨b', c', hrest⟩ := ih (f (blockAt x k)) 0#4 (out ++ (f (blockAt x k)).toList)
    have hload : hostLoad 0x020 (blockAt x k) ((s.setBlk b).setErr c) = .ok ((s.setBlk (blockAt x k)).setErr c) () :=
      hostLoad_blk _ _
    refine ⟨b', c', ?_⟩
    simp only [blockLoop, hload, hostIssue_ok hwf (hexec _ _) rfl, DriverResult.andThen_ok, hostReadBlk_eq, State.setErr_blk,
      State.setBlk_blk, hrest, List.flatMap_cons, List.append_assoc]

/-- The loop over all the blocks of a string, from a state with the schedule. -/
theorem blockLoop_range {s : State} {i : Instr} {f : Block → Block} (hi : TransformsBlk s i f) (x : List Byte) (n : Nat) :
    ∃ (b : Block) (c : BitVec 4), blockLoop i x (List.range n) s [] =
      .ok ((s.setBlk b).setErr c) (joinBlocks (fun k => f (blockAt x k)) n) :=
  blockLoop_eq hi x (List.range n) s.blk s.err []

/-- R233: each padded block is encrypted on its own, and the schedule stays. -/
theorem encryptMessage_eq {s : State} (hkv : s.kv = true) (x : List Byte) :
    ∃ (b : Block) (c : BitVec 4), encryptMessage x s = .ok ((s.setBlk b).setErr c)
      (joinBlocks (fun k => cipher s.w (blockAt (padMessage x) k)) ((padMessage x).length / 16)) :=
  blockLoop_range (encblk_transformsBlk hkv) _ _

/-- R235: whole blocks are decrypted each on its own, and the padding is taken off. -/
theorem decryptMessage_eq {s : State} (hkv : s.kv = true) {c m : List Byte} {n : Nat} (hlen : c.length = 16 * n)
    (hn : n ≠ 0) (hm : unpadMessage (joinBlocks (fun k => invCipher s.w (blockAt c k)) n) = .ok m) :
    ∃ u, decryptMessage c s = .ok u m := by
  have hgate : ¬ (c.length = 0 ∨ c.length % 16 ≠ 0) := by omega
  have hdiv : c.length / 16 = n := by omega
  obtain ⟨b, e, hloop⟩ := blockLoop_range (decblk_transformsBlk hkv) c n
  refine ⟨(s.setBlk b).setErr e, ?_⟩
  simp only [decryptMessage, if_neg hgate, hdiv, hloop, DriverResult.andThen_ok, hm]

end Sys2Proof.Machine
end

section
/-! PROOFS. Strings, byte by byte through the core (spec/45_host_procedures.md R237, R238). -/

namespace Sys2Proof.Machine
open Sys2Proof Sys2Proof.Spec

/-- The core while a string is encrypted or decrypted: only RA, RR and ERR change. -/
def State.withSymbol (s : State) (a r : Word32) (c : BitVec 4) : State := { s with ra := a, rr := r, err := c }

/-- One symbol: RA takes the operand, and the driver reads the result in RR. -/
theorem hostSymbol_ok {s : State} {i : Instr} (hwf : i.wellFormed = true) {a a' r r' : Word32} {c : BitVec 4}
    (h : exec i (s.withSymbol a' r c) = .next (s.withSymbol a' r' 0#4)) :
    hostSymbol i a' (s.withSymbol a r c) = .ok (s.withSymbol a' r' 0#4) r' := by
  have hwrite : hostWrite 0x040 a' (s.withSymbol a r c) = .ok (s.withSymbol a' r c) () :=
    hostWrite_offset _ .ra a' Reg.noConfusion
  have hread : busRead (s.withSymbol a' r' 0#4) 0x04C = r' := busRead_offset _ .rr
  simp only [hostSymbol, hwrite, hostIssue_ok hwf h rfl, DriverResult.andThen_ok, hread]

section strings
variable {s : State} (hk : s.pkv = true) (hvalid : s.KeyMaterialValid)
include hk hvalid

/-- A byte is encrypted to its power by E modulo N (R237). -/
theorem hostSymbol_encint (b : Byte) (a r : Word32) (c : BitVec 4) : ∃ r' : Word32,
    hostSymbol .encint (b.setWidth 32) (s.withSymbol a r c) = .ok (s.withSymbol (b.setWidth 32) r' 0#4) r' ∧
    r'.toNat = b.toNat ^ s.e.toNat % s.n.toNat := by
  obtain ⟨r', hexec, hr'⟩ := exec_encint (s := s.withSymbol (b.setWidth 32) r c) hk hvalid.two_le_n
  have hval : (b.setWidth 32).toNat = b.toNat := BitVec.toNat_setWidth_of_le (by decide)
  exact ⟨r', hostSymbol_ok rfl hexec, hr'.trans (congrArg (· ^ s.e.toNat % s.n.toNat) hval)⟩

/-- encryptString puts out one power below N for each byte, in their order (R237). -/
theorem encryptStringFrom_eq (x : List Byte) : ∀ (a r : Word32) (c : BitVec 4) (out : List Word32),
    ∃ (a' r' : Word32) (c' : BitVec 4) (cs : List Word32),
      encryptStringFrom x (s.withSymbol a r c) out = .ok (s.withSymbol a' r' c') (out ++ cs) ∧
      cs.map BitVec.toNat = x.map fun b => b.toNat ^ s.e.toNat % s.n.toNat := by
  induction x with
  | nil => exact fun a r c out => ⟨a, r, c, [], by simp [encryptStringFrom]⟩
  | cons b x ih =>
    intro a r c out
    obtain ⟨v, hsymbol, hv⟩ := hostSymbol_encint hk hvalid b a r c
    obtain ⟨a', r', c', cs, hrest, hcs⟩ := ih (b.setWidth 32) v 0#4 (out ++ [v])
    refine ⟨a', r', c', v :: cs, ?_, by rw [List.map_cons, List.map_cons, hv, hcs]⟩
    simp only [encryptStringFrom, hsymbol, DriverResult.andThen_ok, hrest, List.append_assoc, List.singleton_append]

section decrypt
variable (hpq : s.p ≠ s.q) (hn : 255 < s.n.toNat)
include hpq hn

/-- An encrypted byte is decrypted to itself (R238). -/
theorem hostSymbol_decbyte (b : Byte) (a r : Word32) (c : BitVec 4) : ∃ a' : Word32,
    hostSymbol .decbyte (BitVec.ofNat 32 (b.toNat ^ s.e.toNat % s.n.toNat)) (s.withSymbol a r c) =
      .ok (s.withSymbol a' (b.setWidth 32) 0#4) (b.setWidth 32) := by
  have hcn : b.toNat ^ s.e.toNat % s.n.toNat < s.n.toNat := Nat.mod_lt _ (by omega)
  obtain ⟨a', ha'⟩ := exists_word_of_lt (hcn.trans s.n.isLt)
  have hback : a'.toNat ^ s.d.toNat % s.n.toNat = b.toNat :=
    ha' ▸ hvalid.decrypt_encrypt hpq (by have := b.isLt; omega)
  have hrange : a'.toNat ^ s.d.toNat % s.n.toNat ≤ 255 := by have := b.isLt; omega
  have h2 := hvalid.two_le_n
  obtain ⟨r', hexec, hr'⟩ := exec_decint (s := s.withSymbol a' r c) hk h2
  have hval : (b.setWidth 32).toNat = b.toNat := BitVec.toNat_setWidth_of_le (by decide)
  obtain rfl : r' = b.setWidth 32 := BitVec.eq_of_toNat_eq ((hr'.trans hback).trans hval.symm)
  rw [← exec_decbyte_eq_decint (s := s.withSymbol a' r c) hk h2 hrange] at hexec
  rw [← ha', BitVec.ofNat_toNat, BitVec.setWidth_eq]
  exact ⟨a', hostSymbol_ok rfl hexec⟩

/-- decryptString of the powers of bytes puts out the bytes (R238). -/
theorem decryptStringFrom_map (x : List Byte) : ∀ (a r : Word32) (c : BitVec 4) (out : List Byte),
    ∃ u, decryptStringFrom (x.map fun b => b.toNat ^ s.e.toNat % s.n.toNat) (s.withSymbol a r c) out = .ok u (out ++ x) := by
  induction x with
  | nil => exact fun a r c out => ⟨s.withSymbol a r c, by simp [decryptStringFrom]⟩
  | cons b x ih =>
    intro a r c out
    have hresidue : residueOf (b.toNat ^ s.e.toNat % s.n.toNat) (busRead (s.withSymbol a r c) 0x068).toNat =
        b.toNat ^ s.e.toNat % s.n.toNat := by
      have hread : busRead (s.withSymbol a r c) 0x068 = s.n := busRead_offset _ .n
      rw [hread, residueOf_pos _ _ (by omega), Nat.mod_mod]
    have hbyte : (b.setWidth 32).setWidth 8 = b := by simp
    obtain ⟨a', hsymbol⟩ := hostSymbol_decbyte hk hvalid hpq hn b a r c
    obtain ⟨u, hrest⟩ := ih a' (b.setWidth 32) 0#4 (out ++ [b])
    refine ⟨u, ?_⟩
    simp only [List.map_cons, decryptStringFrom, hresidue, hsymbol, DriverResult.andThen_ok, hbyte, hrest, List.append_assoc,
      List.singleton_append]

end decrypt

end strings

end Sys2Proof.Machine
end

section
/-! PROOFS. The obligations of spec/45_host_procedures.md. -/

namespace Sys2Proof.Machine
open Sys2Proof Sys2Proof.Spec

/-- Settles O53: the pad is as long as its bytes say, so the last of them takes it off. -/
theorem unpadUndoesPad : Obligations.UnpadUndoesPad := by
  intro x
  obtain ⟨h1, h16⟩ := padLength_bounds x.length
  have hlen := length_padMessage x
  have hmul := length_padMessage_eq_mul x
  exact ⟨padLength x.length, rfl, h1, h16, rfl, hlen, by omega, by omega, unpadMessage_padMessage x⟩

/-- Settles O54: the two cases of unpad's check of the last byte. -/
theorem unpadTrustsLastByte : Obligations.UnpadTrustsLastByte := by
  intro x pl
  rw [unpadMessage_append_singleton]
  exact ⟨fun h => if_pos h, fun h => if_neg (Nat.not_lt.mpr h)⟩

/-- Settles O55: LOADKEY clears KV, and KEYEXP of the length decides; a length above 255 is issued as 255. -/
theorem blockCipherConstructChecksLength : Obligations.BlockCipherConstructChecksLength := by
  intro k s
  have hwf : (Instr.keyexp (min k.length 255)).wellFormed = true := decide_eq_true (by omega)
  simp only [blockCipherConstruct, hostLoad_key, DriverResult.andThen_ok]
  refine ⟨fun h => ?_, fun h => ?_⟩
  · rw [h]
    exact hostIssue_ok rfl (exec_keyexp _) rfl
  · exact hostIssue_error hwf (exec_keyexp_badLength (by omega)) (CmdError.code_ne_zero .invalidKeyLength)

/-- Settles O56: the driver's loop enciphers each padded block under the one schedule. -/
theorem encryptMessageIsEcb : Obligations.EncryptMessageIsEcb := by
  intro x s hkv
  obtain ⟨b, c, henc⟩ := encryptMessage_eq hkv x
  exact ⟨_, henc⟩

/-- Settles O57: the length check comes before any access. -/
theorem decryptMessageChecksLength : Obligations.DecryptMessageChecksLength := by
  intro c s h
  have hlen : c.length = 0 ∨ c.length % 16 ≠ 0 := h.imp_left List.length_eq_zero_iff.mpr
  rw [decryptMessage, if_pos hlen]

/-- Settles O58: DECBLK undoes ENCBLK block by block, and unpad undoes pad. -/
theorem messageRoundTrip : Obligations.MessageRoundTrip := by
  intro x s hkv
  have hmul := length_padMessage_eq_mul x
  have hlen := length_padMessage x
  obtain ⟨h1, -⟩ := padLength_bounds x.length
  obtain ⟨b, c, henc⟩ := encryptMessage_eq hkv x
  have hback := joinBlocks_undo (invCipher_cipher s.w) hmul
  obtain ⟨u, hdec⟩ := decryptMessage_eq (s := (s.setBlk b).setErr c) hkv (length_joinBlocks _ _) (by omega)
    ((congrArg unpadMessage hback).trans (unpadMessage_padMessage x))
  exact ⟨_, _, u, henc, (length_joinBlocks _ _).trans (hmul.symm.trans hlen), hdec⟩

/-- Settles O59: each byte's power by D of its power by E is the byte. -/
theorem stringRoundTrip : Obligations.StringRoundTrip := by
  intro x s hk hvalid hpq hn
  obtain ⟨a, r, c, cs, henc, hcs⟩ := encryptStringFrom_eq hk hvalid x s.ra s.rr s.err []
  obtain ⟨u, hdec⟩ := decryptStringFrom_map hk hvalid hpq hn x a r c []
  have hlen : cs.length = x.length := by simpa only [List.length_map] using congrArg List.length hcs
  have hbelow : ∀ v ∈ cs.map BitVec.toNat, v < s.n.toNat := by
    rw [hcs]
    exact List.forall_mem_map.mpr fun b _ => Nat.mod_lt _ (by omega)
  exact ⟨_, cs, u, henc, hlen, List.forall_mem_map.mp hbelow, by rw [hcs]; exact hdec⟩

/-- Settles O60: KEYGEN draws two legal primes, whose key is valid in the registers that the driver reads back. -/
theorem publicKeyConstructReportsValidKey : Obligations.PublicKeyConstructReportsValidKey := by
  intro s hr hex
  obtain ⟨p, hp, q, hq, hexec⟩ := exec_keygen (mt (primesIn_eq_nil_iff _ _).mp (not_not.mpr hex))
  have hvalid := setKeyMaterial_valid s (legalPrime_of_mem_primesIn hr hp) (legalPrime_of_mem_primesIn hr hq)
  refine ⟨((s.setKeyMaterial p q (deriveKey p q)).advanceDraws 2).setErr 0#4, ?_, rfl, hvalid⟩
  rw [publicKeyConstruct, hostIssue_ok rfl hexec rfl, DriverResult.andThen_ok, hostReadKeys_eq]

end Sys2Proof.Machine
end

section
/-! PROOFS. The error a command reports: its checks, one after the other, and the modular power for every modulus, 0 and 1
included (spec/60_exceptions.md R262 to R272; spec/43_rsa_operations.md R200). -/

namespace Sys2Proof.Machine
open Sys2Proof Sys2Proof.Spec

/-! The range check of DECBYTE where N may hold any word. -/

theorem modexpLoop_modEq (m : Nat) : ∀ fuel acc base x : Nat, x ≤ fuel →
    modexpLoop fuel acc base x m ≡ acc * base ^ x [MOD m]
  | 0, acc, base, x, hx => by
    rw [Nat.le_zero.mp hx, modexpLoop, pow_zero, mul_one]
  | fuel + 1, acc, base, x, hx => by
    by_cases h0 : x = 0
    · rw [modexpLoop, if_pos h0, h0, pow_zero, mul_one]
    · rw [modexpLoop, if_neg h0]
      exact (modexpLoop_modEq m fuel _ _ _ (by omega)).trans (modexpRound_modEq acc base x m)

/-- Modulo 0 nothing is ever reduced: the loop computes the power itself. -/
theorem modexpOf_zero (b x : Nat) : modexpOf b x 0 = b ^ x := by
  simpa [modexpOf, Nat.ModEq] using modexpLoop_modEq 0 x 1 b x le_rfl

theorem modexpLoop_one_le (fuel : Nat) : ∀ acc base x : Nat, acc ≤ 1 → modexpLoop fuel acc base x 1 ≤ 1 := by
  induction fuel with
  | zero => exact fun _ _ _ hacc => hacc
  | succ fuel ih =>
    intro acc base x hacc
    rw [modexpLoop]
    split
    · exact hacc
    · exact ih _ _ _ (by split <;> omega)

/-- R272's check gives one answer for the loop's result and for the power, also where N is 0 or 1. -/
theorem modexpOf_gt_255_iff (b x m : Nat) : modexpOf b x m > 255 ↔ b ^ x % m > 255 := by
  match m with
  | 0 => rw [modexpOf_zero, Nat.mod_zero]
  | 1 =>
    have hle : modexpOf b x 1 ≤ 1 := modexpLoop_one_le x 1 _ x le_rfl
    omega
  | m + 2 => rw [modexpOf_eq_pow_mod b x (by omega)]

/-! The checks of one command. -/

/-- The checks of R267 that the command `i` makes itself, in their order. -/
def commandChecks (s : State) : Instr → List (Prop × BitVec 4)
  | .keyexp klen => [(klen ≠ 16, 0x2#4)]
  | .addroundkey rnd => [(rnd > 10, 0x4#4), (s.kv = false, 0x3#4)]
  | .encblk | .decblk => [(s.kv = false, 0x3#4)]
  | .encint | .decint => [(s.pkv = false, 0x8#4)]
  | .decbyte => [(s.pkv = false, 0x8#4), (s.ra.toNat ^ s.d.toNat % s.n.toNat > 255, 0x9#4)]
  | .modmul | .modexp => [(s.rm.toNat < 2, 0x5#4)]
  | .modinv => [(s.rm.toNat < 2, 0x5#4), (Nat.gcd (s.ra.toNat % s.rm.toNat) s.rm.toNat ≠ 1, 0x6#4)]
  | .keygen => [(¬ ∃ x, s.plo.toNat ≤ x ∧ x ≤ s.phi.toNat ∧ Nat.Prime x, 0x7#4)]
  | .keyload => [(¬ (LegalPrime s.ra.toNat ∧ LegalPrime s.rb.toNat), 0x7#4)]
  | .nop | .subbytes | .invsubbytes | .shiftrows | .invshiftrows | .mixcolumns | .invmixcolumns | .primetest | .gcd => []

/-- The command completes with the code of the first of the checks that applies. -/
def Reports (o : Outcome) (checks : List (Prop × BitVec 4)) : Prop := ∃ t, o = .next t ∧ FirstError checks t.err

section reports
variable {s : State} {checks : List (Prop × BitVec 4)}

theorem reports_success (s u : State) : Reports (s.complete (.ok u)) [] := ⟨u.setErr 0#4, rfl, rfl⟩

/-- A check of the model in front of the rest of a command is a check in front of the others. -/
theorem reports_check {p q : Prop} [Decidable q] {c : CmdError} {r : Except CmdError State} (hqp : q ↔ p)
    (h : Reports (s.complete r) checks) : Reports (s.complete (if q then .error c else r)) ((p, c.code) :: checks) := by
  split_ifs with hq
  · exact ⟨s.setErr c.code, rfl, .inl ⟨hqp.mp hq, rfl⟩⟩
  · obtain ⟨t, ht, herr⟩ := h
    exact ⟨t, ht, .inr ⟨mt hqp.mpr hq, herr⟩⟩

end reports

/-- Every command makes its checks in R267's order. -/
theorem exec_reports (i : Instr) (s : State) : Reports (exec i s) (commandChecks s i) := by
  cases i with
  | nop | subbytes | invsubbytes | shiftrows | invshiftrows | mixcolumns | invmixcolumns | primetest | gcd =>
    exact reports_success s _
  | keyexp | encblk | decblk | encint | decint | modmul | modexp => exact reports_check Iff.rfl (reports_success s _)
  | addroundkey => exact reports_check Iff.rfl (reports_check Iff.rfl (reports_success s _))
  | modinv => exact reports_check Iff.rfl (reports_check (by rw [gcdOf_eq_gcd]; rfl) (reports_success s _))
  | keygen => exact reports_check (List.isEmpty_iff.trans (primesIn_eq_nil_iff _ _)) (reports_success s _)
  | keyload =>
    refine reports_check ?_ (reports_success s _)
    rw [← legalPrime_eq_true_iff, ← legalPrime_eq_true_iff, ← Bool.and_eq_true, Bool.not_eq_true]
    rfl
  | decbyte => exact reports_check Iff.rfl (reports_check (modexpOf_gt_255_iff _ _ _) (reports_success s _))

/-- The fields of an accepted word, by the bit numbers of R80, are those of its command. -/
theorem fields_of_decode {v : Word32} {i : Instr} (h : decode v = .ok i) :
    v.toNat % 256 = i.opc.toNat ∧ v.toNat / 2 ^ 16 % 256 = i.klen ∧ v.toNat / 2 ^ 8 % 16 = i.rnd := by
  obtain ⟨hopc, hrnd, -, hklen, -⟩ := Laws.EncodingLayout.layout i
  obtain ⟨hk, hr⟩ := (wellFormed_iff i).mp (wellFormed_of_decode h)
  rw [encode_of_decode h] at hopc hrnd hklen
  rw [← toNat_opcField, ← toNat_klenField, ← toNat_rndField, hopc, hklen, hrnd, Nat.mod_eq_of_lt hk, Nat.mod_eq_of_lt hr]
  exact ⟨rfl, rfl, rfl⟩

/-- Of R267's list an accepted word leaves the checks of its command: the others ask for another opcode. -/
theorem firstError_errorChecks {v : Word32} {i : Instr} (h : decode v = .ok i) (s : State) (c : BitVec 4) :
    FirstError (errorChecks v s) c ↔ FirstError (commandChecks s i) c := by
  have hlegal : ¬ IllegalWord v := (decode_ok_iff v).mp ⟨i, h⟩
  obtain ⟨hopc, hklen, hrnd⟩ := fields_of_decode h
  simp only [errorChecks, hopc, hklen, hrnd, FirstError, hlegal]
  cases i <;> simp [commandChecks, FirstError, Instr.opc, Instr.klen, Instr.rnd]

/-! The old ERR. -/

/-- A check looks the same from a state with another ERR, if what follows it does. -/
theorem complete_check_setErr {s : State} {e : BitVec 4} {q : Prop} [Decidable q] {c : CmdError}
    {r r' : Except CmdError State} (h : (s.setErr e).complete r' = s.complete r) :
    (s.setErr e).complete (if q then .error c else r') = s.complete (if q then .error c else r) := by
  split_ifs
  · rfl
  · exact h

/-- No command reads ERR, which describes the last command only (R262). -/
theorem exec_setErr (i : Instr) (s : State) (e : BitVec 4) : exec i (s.setErr e) = exec i s := by
  cases i with
  | nop | subbytes | invsubbytes | shiftrows | invshiftrows | mixcolumns | invmixcolumns | primetest | gcd => rfl
  | keyexp | encblk | decblk | encint | decint | modmul | modexp | keygen | keyload => exact complete_check_setErr rfl
  | addroundkey | modinv | decbyte => exact complete_check_setErr (complete_check_setErr rfl)

/-- Execute(v) completes as a command does, in its writes and ERR 0 or in an error alone (R260, R262). -/
theorem execute_eq_complete (v : Word32) (s : State) : ∃ r, execute v s = s.complete r := by
  cases hd : decode v with
  | error x => exact ⟨.error .illegalCmd, execute_of_reject s hd⟩
  | ok i => exact execute_of_decode s hd ▸ exec_eq_complete i s

theorem execute_setErr (v : Word32) (s : State) (e : BitVec 4) : execute v (s.setErr e) = execute v s := by
  cases hd : decode v with
  | error x => rw [execute_of_reject _ hd, execute_of_reject _ hd, State.setErr_setErr]
  | ok i => rw [execute_of_decode _ hd, execute_of_decode _ hd, exec_setErr]

end Sys2Proof.Machine
end

section
/-! PROOFS. The obligations of spec/60_exceptions.md. -/

namespace Sys2Proof.Machine
open Sys2Proof Sys2Proof.Spec

/-- Settles O20: an outcome of `State.complete` has ERR 0, or is the old state with an error's code, which is not 0. -/
theorem failedCommandChangesOnlyErr : Obligations.FailedCommandChangesOnlyErr := by
  refine fun v s => ⟨?_, execute_setErr v s⟩
  obtain ⟨r, hr⟩ := execute_eq_complete v s
  rw [hr]
  cases r with
  | ok u => exact ⟨u.setErr 0#4, rfl, .inl rfl⟩
  | error c => exact ⟨s.setErr c.code, rfl, .inr ⟨c.code_ne_zero, rfl⟩⟩

/-- Settles O21: an illegal word meets the first check, and for any other word R267's list is that of its command. -/
theorem errorPriority : Obligations.ErrorPriority := by
  intro v s
  cases hd : decode v with
  | error x =>
    have hill : IllegalWord v := not_not.mp fun h => by simpa [hd] using (decode_ok_iff v).mpr h
    exact ⟨s.setErr 0x1#4, execute_of_reject s hd, .inl ⟨hill, rfl⟩⟩
  | ok i =>
    obtain ⟨t, ht, herr⟩ := exec_reports i s
    exact ⟨t, (execute_of_decode s hd).trans ht, (firstError_errorChecks hd s t.err).mpr herr⟩

end Sys2Proof.Machine
end

section
/-! PROOFS. A step that no access stops: what it takes from the host's list, and that a defined event lets it complete
(spec/20_memory.md R51; spec/60_exceptions.md R260; spec/70_reset_and_hazards.md R290, R300). -/

namespace Sys2Proof.Machine
open Sys2Proof Sys2Proof.Spec

section step
variable {s t : State} {rest : List HostEvent}

theorem step_of_reset {a : Option Access} (h : s.pending = .reset a :: rest) :
    step s = .next (s.withPending rest).platformReset := by
  simp only [step, takeEvent, h, performEvent]

/-- A step takes the first event, if there is one, and puts none in (R20, R61). -/
theorem step_pending (h : step s = .next t) : t.pending = s.pending.tail := by
  cases step_effect h with
  | idle hp => rw [hp, List.tail_nil]
  | reset | read | ignored | illegal => rfl
  | @write r v =>
    obtain ⟨-, -, -, -, -, -, -, -, -, -, hp, -⟩ := writeReg_frame s.popEvent r v
    exact hp
  | command _ he =>
    obtain ⟨hp, -⟩ := commandEffect_hostSide he
    exact hp

/-- A step leaves the host the rest of its list, which is as safe as the whole. -/
theorem safeHost_step (hs : s.SafeHost) (h : step s = .next t) : t.SafeHost := fun ev hev =>
  hs ev (List.mem_of_mem_tail (step_pending h ▸ hev))

/-- A BusWrite is never stopped, since every command completes (R260). -/
theorem busWrite_completes (s : State) (off : Nat) (v : Word32) : ∃ t, busWrite s off v = .next t := by
  cases hr : regAt off with
  | none => exact ⟨s, busWrite_reserved s v hr⟩
  | some r =>
    obtain rfl := offset_of_regAt hr
    by_cases hcmd : r = .cmd
    · subst hcmd
      obtain ⟨o, ho⟩ := execute_eq_complete v s
      exact ⟨_, (busWrite_cmd s v).trans ho⟩
    · exact ⟨_, busWrite_offset s r v hcmd⟩

theorem access_defined_iff (a : Access) :
    a.defined = true ↔ ∃ off, a.loc.windowOffset = some off ∧ a.width = 32 ∧ off % 4 = 0 := by
  cases h : a.loc.windowOffset <;> simp [Access.defined, h]

theorem performAccess_completes {a : Access} (s : State) (h : a.defined = true) : ∃ t, performAccess a s = .next t := by
  obtain ⟨width, loc, act⟩ := a
  obtain ⟨off, hoff, rfl, ha⟩ := (access_defined_iff _).mp h
  cases act with
  | read => exact ⟨s.pushRead (busRead s off), by simp [performAccess, hoff, ha]⟩
  | write v => simpa [performAccess, hoff, ha] using busWrite_completes s off v

/-- With a safe host every step completes. -/
theorem step_completes (hs : s.SafeHost) : ∃ t, step s = .next t := by
  cases hp : s.pending with
  | nil => exact ⟨s, idleHostChangesNothing s hp⟩
  | cons ev rest =>
    cases ev with
    | reset a => exact ⟨_, step_of_reset hp⟩
    | access a =>
      rw [step_of_access hp]
      exact performAccess_completes _ (hs (.access a) (hp ▸ List.mem_cons_self))

end step

end Sys2Proof.Machine
end

section
/-! PROOFS. The two units apart: what a command does from `s` it does from any state that holds the unit's elements of `s`, and
there it leaves everything else but ERR (spec/00_scope.md R2; spec/70_reset_and_hazards.md R308). -/

namespace Sys2Proof.Machine
open Sys2Proof Sys2Proof.Spec

/-! One unit's elements of a state, put into another state. -/

/-- `u` with the elements of the block cipher unit (R2) of `s`. -/
def State.withBcu (u s : State) : State := { u with kv := s.kv, key := s.key, blk := s.blk, w := s.w }

/-- `u` with the elements of the public-key unit (R2) of `s`, and its position in the entropy source. -/
def State.withPku (u s : State) : State :=
  { u with
    pkv := s.pkv, ra := s.ra, rb := s.rb, rm := s.rm, rr := s.rr, plo := s.plo, phi := s.phi, p := s.p, q := s.q, n := s.n,
    t := s.t, e := s.e, d := s.d, draws := s.draws }

section units
variable {s t u : State} {i j : Instr}

theorem State.SameBcu.withBcu_eq (h : s.SameBcu u) : u.withBcu s = u := by
  obtain ⟨hkv, hkey, hblk, hw⟩ := h
  rw [State.withBcu, hkv, hkey, hblk, hw]

theorem State.SamePku.withPku_eq (h : s.SamePku u) : u.withPku s = u := by
  obtain ⟨hpkv, hra, hrb, hrm, hrr, hplo, hphi, hp, hq, hn, ht, he, hd, hdraws⟩ := h
  rw [State.withPku, hpkv, hra, hrb, hrm, hrr, hplo, hphi, hp, hq, hn, ht, he, hd, hdraws]

/-! A command under a map that puts a unit's elements into another state. -/

/-- Where `o` ends in `t`, `o'` ends in `g t` with the ERR of `t`. -/
def EndsAs (g : State → State) (o o' : Outcome) : Prop := ∃ t, o = .next t ∧ o' = .next ((g t).setErr t.err)

section endsAs
variable {g : State → State} (hg : ∀ t c, g (t.setErr c) = g t)
include hg

theorem endsAs_success (s t : State) : EndsAs g (s.complete (.ok t)) ((g s).complete (.ok (g t))) :=
  ⟨t.setErr 0#4, rfl, by rw [hg]; rfl⟩

/-- A check on which both agree, in front of what ends alike. -/
theorem endsAs_check {q : Prop} [Decidable q] {c : CmdError} {r r' : Except CmdError State}
    (h : EndsAs g (s.complete r) ((g s).complete r')) :
    EndsAs g (s.complete (if q then .error c else r)) ((g s).complete (if q then .error c else r')) := by
  split_ifs
  · exact ⟨s.setErr c.code, rfl, by rw [hg]; rfl⟩
  · exact h

end endsAs

/-- The commands of the block cipher unit act on its elements alone, wherever these stand. -/
theorem exec_withBcu (hi : isBcuCommand i = true) (u s : State) :
    EndsAs u.withBcu (exec i s) (exec i (u.withBcu s)) := by
  have hg : ∀ t c, u.withBcu (t.setErr c) = u.withBcu t := fun _ _ => rfl
  cases i with
  | subbytes | invsubbytes | shiftrows | invshiftrows | mixcolumns | invmixcolumns => exact endsAs_success hg s _
  | keyexp | encblk | decblk => exact endsAs_check hg (endsAs_success hg s _)
  | addroundkey => exact endsAs_check hg (endsAs_check hg (endsAs_success hg s _))
  | nop | primetest | gcd | modinv | keygen | keyload | modmul | modexp | encint | decint | decbyte => cases hi

/-- The commands of the public-key unit act on its elements alone, wherever these stand. -/
theorem exec_withPku (hi : isPkuCommand i = true) (u s : State) :
    EndsAs u.withPku (exec i s) (exec i (u.withPku s)) := by
  have hg : ∀ t c, u.withPku (t.setErr c) = u.withPku t := fun _ _ => rfl
  cases i with
  | primetest | gcd => exact endsAs_success hg s _
  | keygen | keyload | modmul | modexp | encint | decint => exact endsAs_check hg (endsAs_success hg s _)
  | modinv | decbyte => exact endsAs_check hg (endsAs_check hg (endsAs_success hg s _))
  | nop | keyexp | encblk | decblk | subbytes | invsubbytes | shiftrows | invshiftrows | mixcolumns | invmixcolumns
  | addroundkey => cases hi

/-! Hence what a command of one unit leaves, what its result depends on, and in which order commands of both may run. -/

/-- A command of the block cipher unit changes that unit's elements and ERR. -/
theorem exec_bcu_frame (hi : isBcuCommand i = true) (h : exec i s = .next t) : ∃ x e, t = (s.withBcu x).setErr e := by
  obtain ⟨x, -, hown⟩ := exec_withBcu hi s s
  exact ⟨x, x.err, Host.Outcome.next.inj (h.symm.trans hown)⟩

/-- A command of the public-key unit changes that unit's elements and ERR. -/
theorem exec_pku_frame (hi : isPkuCommand i = true) (h : exec i s = .next t) : ∃ x e, t = (s.withPku x).setErr e := by
  obtain ⟨x, -, hown⟩ := exec_withPku hi s s
  exact ⟨x, x.err, Host.Outcome.next.inj (h.symm.trans hown)⟩

theorem samePku_of_bcuCommand (hi : isBcuCommand i = true) (h : exec i s = .next t) : s.SamePku t := by
  obtain ⟨x, e, rfl⟩ := exec_bcu_frame hi h
  simp [State.SamePku, State.withBcu]

theorem sameBcu_of_pkuCommand (hi : isPkuCommand i = true) (h : exec i s = .next t) : s.SameBcu t := by
  obtain ⟨x, e, rfl⟩ := exec_pku_frame hi h
  simp [State.SameBcu, State.withPku]

/-- From a state with the same elements of the block cipher unit, its command puts the same result there. -/
theorem bcuCommand_eq_withBcu {s' t' : State} (hi : isBcuCommand i = true) (hs : s.SameBcu s') (h : exec i s = .next t)
    (h' : exec i s' = .next t') : t' = (s'.withBcu t).setErr t.err := by
  obtain ⟨x, hx, hx'⟩ := exec_withBcu hi s' s
  cases hx.symm.trans h
  rw [hs.withBcu_eq] at hx'
  exact Host.Outcome.next.inj (h'.symm.trans hx')

/-- From a state with the same elements of the public-key unit, its command puts the same result there. -/
theorem pkuCommand_eq_withPku {s' t' : State} (hi : isPkuCommand i = true) (hs : s.SamePku s') (h : exec i s = .next t)
    (h' : exec i s' = .next t') : t' = (s'.withPku t).setErr t.err := by
  obtain ⟨x, hx, hx'⟩ := exec_withPku hi s' s
  cases hx.symm.trans h
  rw [hs.withPku_eq] at hx'
  exact Host.Outcome.next.inj (h'.symm.trans hx')

/-- Each of two commands of different units finds its own unit as the other one found it, so but for ERR their order makes no
difference. -/
theorem unitCommands_commute {t' u' : State} (hi : isBcuCommand i = true) (hj : isPkuCommand j = true)
    (ht : exec i s = .next t) (hu : exec j t = .next u) (ht' : exec j s = .next t') (hu' : exec i t' = .next u') :
    { u' with err := u.err } = u := by
  obtain rfl : u = (t.withPku t').setErr t'.err := pkuCommand_eq_withPku hj (samePku_of_bcuCommand hi ht) ht' hu
  obtain rfl : u' = (t'.withBcu t).setErr t.err := bcuCommand_eq_withBcu hi (sameBcu_of_pkuCommand hj ht') ht hu'
  obtain ⟨x, e, rfl⟩ := exec_bcu_frame hi ht
  obtain ⟨y, e', rfl⟩ := exec_pku_frame hj ht'
  rfl

end units

end Sys2Proof.Machine
end

section
/-! PROOFS. The obligations of spec/70_reset_and_hazards.md. -/

namespace Sys2Proof.Machine
open Sys2Proof Sys2Proof.Spec

/-- Settles O14, by induction on the number of steps: a safe host's step completes and leaves a safe host. -/
theorem safeHostNeverStops : Obligations.SafeHostNeverStops := by
  intro k
  induction k with
  | zero => exact fun s hs => ⟨s, rfl, hs⟩
  | succ k ih =>
    intro s hs
    obtain ⟨t, ht⟩ := step_completes hs
    rw [run_succ_of_step ht]
    exact ih t (safeHost_step hs ht)

/-- Settles O23: a command acts on its own unit's elements alone, whatever state they stand in. -/
theorem unitsAreIndependent : Obligations.UnitsAreIndependent := by
  refine ⟨fun _ _ _ => samePku_of_bcuCommand, fun _ _ _ => sameBcu_of_pkuCommand, ?_, ?_,
    fun _ _ _ _ _ _ _ => unitCommands_commute⟩
  · intro i s s' t t' hi hs h h'
    rw [bcuCommand_eq_withBcu hi hs h h']
    exact ⟨by simp [State.SameBcu, State.withBcu], rfl⟩
  · intro i s s' t t' hi hs h h'
    rw [pkuCommand_eq_withPku hi hs h h']
    exact ⟨by simp [State.SamePku, State.withPku], rfl⟩

/-- Settles O11: the step at a reset event performs the reset, whatever access the event names. -/
theorem platformResetFromAnyState : Obligations.PlatformResetFromAnyState := fun _ _ _ h => step_of_reset h

end Sys2Proof.Machine
end
